-- ==== Sys2Proof/Word.lean ====
section
/-! DEFINITION. The two word types of the core: an 8-bit byte and a 16-bit word (00_scope.md R7, R9). -/

namespace Sys2Proof

/-- `u8` of rule R9: register contents, memory bytes, data on the bus. -/
abbrev Byte := BitVec 8

/-- `u16` of rule R9: register pairs, PC, SP, memory and port addresses; `+` and `-` wrap modulo 65536. -/
abbrev Word := BitVec 16

end Sys2Proof
end

