-- ==== Sys2Proof/Machine/Bits.lean ====
section
/-! DEFINITION. Bit fields, byte order, sign extension and parity (00_scope.md R9, R10; 20_memory.md R63, R64). -/

namespace Sys2Proof.Machine

/-- `w[15:8]`: the high byte of a word (R9). -/
def hiByte (w : Word) : Byte := w.extractLsb' 8 8

/-- `w[7:0]`: the low byte of a word (R9). -/
def loByte (w : Word) : Byte := w.extractLsb' 0 8

/-- `hi ++ lo`: a word from its two bytes, the high byte first (R9). -/
def joinBytes (hi lo : Byte) : Word := hi ++ lo

/-- A 16-bit immediate of an instruction, `nn = nh ++ nl`, from its bytes in memory order, low byte first (R64, R93). -/
def leWord (lo hi : Byte) : Word := joinBytes hi lo

/-- `sext_16(v8)` of rule R9. -/
def sext16 (v : Byte) : Word := v.signExtend 16

/-- `zext_16(v8)` of rule R9. -/
def zext16 (v : Byte) : Word := v.setWidth 16

/-- `v[3:0]` as an unsigned integer. -/
def loNibble (v : Byte) : Nat := v.toNat % 16

/-- `parity(v)` of rule R9: true when `v` has an even number of 1 bits. -/
def parity (v : Byte) : Bool :=
  !((v.getLsbD 0 ^^ v.getLsbD 1) ^^ (v.getLsbD 2 ^^ v.getLsbD 3) ^^
    ((v.getLsbD 4 ^^ v.getLsbD 5) ^^ (v.getLsbD 6 ^^ v.getLsbD 7)))

/-- `v` with bit `k` set: `v | (1 << k)` (R293). -/
def setBit (v : Byte) (k : Nat) : Byte := v ||| (1#8 <<< k)

/-- `v` with bit `k` cleared: `v & ~(1 << k)` (R296). -/
def clearBit (v : Byte) (k : Nat) : Byte := v &&& ~~~(1#8 <<< k)

/-- `v[7:4]` and `v[3:0]` joined from two nibbles given as bytes: `hi[3:0] ++ lo[3:0]` (R284, R285). -/
def joinNibbles (hi lo : BitVec 4) : Byte := hi ++ lo

/-- `v[7:4]`. -/
def hiNib (v : Byte) : BitVec 4 := v.extractLsb' 4 4

/-- `v[3:0]`. -/
def loNib (v : Byte) : BitVec 4 := v.extractLsb' 0 4

end Sys2Proof.Machine
end

