-- ==== Sys2Proof/Syntax.lean ====
section
/-! DEFINITION. The instructions: one constructor per row of spec/opcode_table.json, in the table's order, and the
operand kinds of 30_encoding.md R94 to R99. -/

namespace Sys2Proof

/-- A two-bit field of an opcode byte (`p`, or the low half of a longer field; R92). -/
inductive Code2 where
  | k0 | k1 | k2 | k3
  deriving DecidableEq, Repr

/-- A three-bit field of an opcode byte (`y`, `z`: register code, condition, operation or bit number; R92). -/
inductive Code3 where
  | k0 | k1 | k2 | k3 | k4 | k5 | k6 | k7
  deriving DecidableEq, Repr

/-- The 8-bit registers of `R8[k]`, k ≠ 6 (R94). -/
inductive Reg8 where
  | b | c | d | e | h | l | a
  deriving DecidableEq, Repr

/-- The register pairs of `RP[p]` (R95). -/
inductive RegPair where
  | bc | de | hl | sp
  deriving DecidableEq, Repr

/-- The register pairs of `RP2[p]`, for PUSH and POP (R96). -/
inductive StackPair where
  | bc | de | hl | af
  deriving DecidableEq, Repr

/-- The conditions `CC[k]` (R97, R300). -/
inductive Cond where
  | nz | z | nc | c | po | pe | p | m
  deriving DecidableEq, Repr

/-- The conditions of `JR cc,e`: `CC[0..3]` only (R97). -/
inductive JrCond where
  | nz | z | nc | c
  deriving DecidableEq, Repr

/-- The index register an index prefix selects: 0xDD selects IX, 0xFD selects IY (R92). -/
inductive IndexReg where
  | ix | iy
  deriving DecidableEq, Repr

/-- A half of an index register: XYH or XYL (R94, R103). -/
inductive Half where
  | high | low
  deriving DecidableEq, Repr

/-- `RP[p]` under an index prefix: code 2 means the index register itself (R95, R261). -/
inductive IndexPair where
  | bc | de | xy | sp
  deriving DecidableEq, Repr

/-- `R8[k]`, k ≠ 6, in the undocumented forms under an index prefix: codes 4 and 5 mean XYH and XYL (R94, R158). -/
inductive HalfReg where
  | b | c | d | e | xyh | xyl | a
  deriving DecidableEq, Repr

/-- The instructions. `n`, `d`, `e` are operand bytes, `nn` a 16-bit operand (R15); `d` and `e` are used sign-extended. -/
inductive Instr where
  /-- `NOP`, 00000000, R244. -/
  | nop
  /-- `EX AF,AF'`, 00001000, R191. -/
  | exAfAf
  /-- `DJNZ e`, 00010000 eeeeeeee, R307. -/
  | djnz (e : Byte)
  /-- `JR e`, 00011000 eeeeeeee, R303. -/
  | jr (e : Byte)
  /-- `JR cc,e`, 001cc000 eeeeeeee, R304. -/
  | jrCc (cc : JrCond) (e : Byte)
  /-- `LD rr,nn`, 00pp0001 nnnnnnnn nnnnnnnn, R170. -/
  | ldRrNn (rr : RegPair) (nn : Word)
  /-- `ADD HL,rr`, 00pp1001, R260. -/
  | addHlRr (rr : RegPair)
  /-- `LD (BC),A`, 00000010, R151. -/
  | ldMBcA
  /-- `LD (DE),A`, 00010010, R152. -/
  | ldMDeA
  /-- `LD (nn),HL`, 00100010 nnnnnnnn nnnnnnnn, R175. -/
  | ldMNnHl (nn : Word)
  /-- `LD (nn),A`, 00110010 nnnnnnnn nnnnnnnn, R153. -/
  | ldMNnA (nn : Word)
  /-- `LD A,(BC)`, 00001010, R148. -/
  | ldAMBc
  /-- `LD A,(DE)`, 00011010, R149. -/
  | ldAMDe
  /-- `LD HL,(nn)`, 00101010 nnnnnnnn nnnnnnnn, R172. -/
  | ldHlMNn (nn : Word)
  /-- `LD A,(nn)`, 00111010 nnnnnnnn nnnnnnnn, R150. -/
  | ldAMNn (nn : Word)
  /-- `INC rr`, 00pp0011, R264. -/
  | incRr (rr : RegPair)
  /-- `DEC rr`, 00pp1011, R266. -/
  | decRr (rr : RegPair)
  /-- `INC r`, 00rrr100, R222. -/
  | incR (r : Reg8)
  /-- `INC (HL)`, 00110100, R223. -/
  | incMHl
  /-- `DEC r`, 00rrr101, R225. -/
  | decR (r : Reg8)
  /-- `DEC (HL)`, 00110101, R226. -/
  | decMHl
  /-- `LD r,n`, 00rrr110 nnnnnnnn, R141. -/
  | ldRN (r : Reg8) (n : Byte)
  /-- `LD (HL),n`, 00110110 nnnnnnnn, R146. -/
  | ldMHlN (n : Byte)
  /-- `RLCA`, 00000111, R270. -/
  | rlca
  /-- `RRCA`, 00001111, R272. -/
  | rrca
  /-- `RLA`, 00010111, R271. -/
  | rla
  /-- `RRA`, 00011111, R273. -/
  | rra
  /-- `DAA`, 00100111, R240. -/
  | daa
  /-- `CPL`, 00101111, R241. -/
  | cpl
  /-- `SCF`, 00110111, R243. -/
  | scf
  /-- `CCF`, 00111111, R242. -/
  | ccf
  /-- `LD r,r'`, 01dddsss, R140. -/
  | ldRR (dst : Reg8) (src : Reg8)
  /-- `LD r,(HL)`, 01ddd110, R142. -/
  | ldRMHl (r : Reg8)
  /-- `LD (HL),r`, 01110sss, R144. -/
  | ldMHlR (r : Reg8)
  /-- `HALT`, 01110110, R245. -/
  | halt
  /-- `ADD A,r`, 10000sss, R214. -/
  | addR (r : Reg8)
  /-- `ADD A,(HL)`, 10000110, R214. -/
  | addMHl
  /-- `ADD A,n`, 11000110 nnnnnnnn, R214. -/
  | addN (n : Byte)
  /-- `ADC A,r`, 10001sss, R215. -/
  | adcR (r : Reg8)
  /-- `ADC A,(HL)`, 10001110, R215. -/
  | adcMHl
  /-- `ADC A,n`, 11001110 nnnnnnnn, R215. -/
  | adcN (n : Byte)
  /-- `SUB r`, 10010sss, R216. -/
  | subR (r : Reg8)
  /-- `SUB (HL)`, 10010110, R216. -/
  | subMHl
  /-- `SUB n`, 11010110 nnnnnnnn, R216. -/
  | subN (n : Byte)
  /-- `SBC A,r`, 10011sss, R217. -/
  | sbcR (r : Reg8)
  /-- `SBC A,(HL)`, 10011110, R217. -/
  | sbcMHl
  /-- `SBC A,n`, 11011110 nnnnnnnn, R217. -/
  | sbcN (n : Byte)
  /-- `AND r`, 10100sss, R218. -/
  | andR (r : Reg8)
  /-- `AND (HL)`, 10100110, R218. -/
  | andMHl
  /-- `AND n`, 11100110 nnnnnnnn, R218. -/
  | andN (n : Byte)
  /-- `XOR r`, 10101sss, R219. -/
  | xorR (r : Reg8)
  /-- `XOR (HL)`, 10101110, R219. -/
  | xorMHl
  /-- `XOR n`, 11101110 nnnnnnnn, R219. -/
  | xorN (n : Byte)
  /-- `OR r`, 10110sss, R220. -/
  | orR (r : Reg8)
  /-- `OR (HL)`, 10110110, R220. -/
  | orMHl
  /-- `OR n`, 11110110 nnnnnnnn, R220. -/
  | orN (n : Byte)
  /-- `CP r`, 10111sss, R221. -/
  | cpR (r : Reg8)
  /-- `CP (HL)`, 10111110, R221. -/
  | cpMHl
  /-- `CP n`, 11111110 nnnnnnnn, R221. -/
  | cpN (n : Byte)
  /-- `RET cc`, 11ccc000, R311. -/
  | retCc (cc : Cond)
  /-- `POP qq`, 11qq0001, R182. -/
  | popQq (qq : StackPair)
  /-- `RET`, 11001001, R310. -/
  | ret
  /-- `EXX`, 11011001, R192. -/
  | exx
  /-- `JP (HL)`, 11101001, R305. -/
  | jpHl
  /-- `LD SP,HL`, 11111001, R178. -/
  | ldSpHl
  /-- `JP cc,nn`, 11ccc010 nnnnnnnn nnnnnnnn, R302. -/
  | jpCc (cc : Cond) (nn : Word)
  /-- `JP nn`, 11000011 nnnnnnnn nnnnnnnn, R301. -/
  | jp (nn : Word)
  /-- `OUT (n),A`, 11010011 nnnnnnnn, R333. -/
  | outNA (n : Byte)
  /-- `IN A,(n)`, 11011011 nnnnnnnn, R330. -/
  | inAN (n : Byte)
  /-- `EX (SP),HL`, 11100011, R193. -/
  | exMSpHl
  /-- `EX DE,HL`, 11101011, R190. -/
  | exDeHl
  /-- `DI`, 11110011, R246. -/
  | di
  /-- `EI`, 11111011, R247. -/
  | ei
  /-- `CALL cc,nn`, 11ccc100 nnnnnnnn nnnnnnnn, R309. -/
  | callCc (cc : Cond) (nn : Word)
  /-- `PUSH qq`, 11qq0101, R180. -/
  | pushQq (qq : StackPair)
  /-- `CALL nn`, 11001101 nnnnnnnn nnnnnnnn, R308. -/
  | call (nn : Word)
  /-- `RST t`, 11ttt111, R312. -/
  | rst (t : Code3)
  /-- `RLC r`, 11001011 00000sss, R275. -/
  | rlcR (r : Reg8)
  /-- `RLC (HL)`, 11001011 00000110, R275. -/
  | rlcMHl
  /-- `RRC r`, 11001011 00001sss, R276. -/
  | rrcR (r : Reg8)
  /-- `RRC (HL)`, 11001011 00001110, R276. -/
  | rrcMHl
  /-- `RL r`, 11001011 00010sss, R277. -/
  | rlR (r : Reg8)
  /-- `RL (HL)`, 11001011 00010110, R277. -/
  | rlMHl
  /-- `RR r`, 11001011 00011sss, R278. -/
  | rrR (r : Reg8)
  /-- `RR (HL)`, 11001011 00011110, R278. -/
  | rrMHl
  /-- `SLA r`, 11001011 00100sss, R279. -/
  | slaR (r : Reg8)
  /-- `SLA (HL)`, 11001011 00100110, R279. -/
  | slaMHl
  /-- `SRA r`, 11001011 00101sss, R280. -/
  | sraR (r : Reg8)
  /-- `SRA (HL)`, 11001011 00101110, R280. -/
  | sraMHl
  /-- `SLL r`, 11001011 00110sss, R281. -/
  | sllR (r : Reg8)
  /-- `SLL (HL)`, 11001011 00110110, R281. -/
  | sllMHl
  /-- `SRL r`, 11001011 00111sss, R282. -/
  | srlR (r : Reg8)
  /-- `SRL (HL)`, 11001011 00111110, R282. -/
  | srlMHl
  /-- `BIT b,r`, 11001011 01bbbsss, R290. -/
  | bitR (b : Code3) (r : Reg8)
  /-- `BIT b,(HL)`, 11001011 01bbb110, R291. -/
  | bitMHl (b : Code3)
  /-- `RES b,r`, 11001011 10bbbsss, R296. -/
  | resR (b : Code3) (r : Reg8)
  /-- `RES b,(HL)`, 11001011 10bbb110, R297. -/
  | resMHl (b : Code3)
  /-- `SET b,r`, 11001011 11bbbsss, R293. -/
  | setR (b : Code3) (r : Reg8)
  /-- `SET b,(HL)`, 11001011 11bbb110, R294. -/
  | setMHl (b : Code3)
  /-- `IN r,(C)`, 11101101 01rrr000, R331. -/
  | inRC (r : Reg8)
  /-- `IN F,(C)`, 11101101 01110000, R332. -/
  | inFC
  /-- `OUT (C),r`, 11101101 01rrr001, R334. -/
  | outCR (r : Reg8)
  /-- `OUT (C),0`, 11101101 01110001, R335. -/
  | outC0
  /-- `SBC HL,rr`, 11101101 01pp0010, R263. -/
  | sbcHlRr (rr : RegPair)
  /-- `ADC HL,rr`, 11101101 01pp1010, R262. -/
  | adcHlRr (rr : RegPair)
  /-- `LD (nn),rr`, 11101101 01pp0011 nnnnnnnn nnnnnnnn, R176. -/
  | ldMNnRr (rr : RegPair) (nn : Word)
  /-- `LD rr,(nn)`, 11101101 01pp1011 nnnnnnnn nnnnnnnn, R173. -/
  | ldRrMNn (rr : RegPair) (nn : Word)
  /-- `NEG`, 11101101 01000100, R251. -/
  | neg
  /-- `NEG (alias)`, 11101101 01yyy100, R251. -/
  | negAlias (y : Code3)
  /-- `RETN`, 11101101 01000101, R318. -/
  | retn
  /-- `RETI`, 11101101 01001101, R317. -/
  | reti
  /-- `RETN (alias)`, 11101101 01yyy101, R318. -/
  | retnAlias (y : Code3)
  /-- `IM 0`, 11101101 01000110, R248. -/
  | im0
  /-- `IM 1`, 11101101 01010110, R249. -/
  | im1
  /-- `IM 2`, 11101101 01011110, R250. -/
  | im2
  /-- `IM (alias)`, 11101101 01yyy110, R253. -/
  | imAlias (y : Code3)
  /-- `LD I,A`, 11101101 01000111, R156. -/
  | ldIA
  /-- `LD R,A`, 11101101 01001111, R157. -/
  | ldRA
  /-- `LD A,I`, 11101101 01010111, R154. -/
  | ldAI
  /-- `LD A,R`, 11101101 01011111, R155. -/
  | ldAR
  /-- `RRD`, 11101101 01100111, R285. -/
  | rrd
  /-- `RLD`, 11101101 01101111, R284. -/
  | rld
  /-- `NOP (ED 77/7F)`, 11101101 0111y111, R252. -/
  | nopEd77 (q : Bool)
  /-- `LDI`, 11101101 10100000, R196. -/
  | ldi
  /-- `CPI`, 11101101 10100001, R200. -/
  | cpi
  /-- `INI`, 11101101 10100010, R337. -/
  | ini
  /-- `OUTI`, 11101101 10100011, R341. -/
  | outi
  /-- `LDD`, 11101101 10101000, R197. -/
  | ldd
  /-- `CPD`, 11101101 10101001, R201. -/
  | cpd
  /-- `IND`, 11101101 10101010, R339. -/
  | ind
  /-- `OUTD`, 11101101 10101011, R343. -/
  | outd
  /-- `LDIR`, 11101101 10110000, R198. -/
  | ldir
  /-- `CPIR`, 11101101 10110001, R202. -/
  | cpir
  /-- `INIR`, 11101101 10110010, R338. -/
  | inir
  /-- `OTIR`, 11101101 10110011, R342. -/
  | otir
  /-- `LDDR`, 11101101 10111000, R199. -/
  | lddr
  /-- `CPDR`, 11101101 10111001, R203. -/
  | cpdr
  /-- `INDR`, 11101101 10111010, R340. -/
  | indr
  /-- `OTDR`, 11101101 10111011, R344. -/
  | otdr
  /-- `NOP (ED undefined, x=0)`, 11101101 00xxxxxx, R252. -/
  | nopEdX0 (y : Code3) (z : Code3)
  /-- `NOP (ED undefined, x=3)`, 11101101 11xxxxxx, R252. -/
  | nopEdX3 (y : Code3) (z : Code3)
  /-- `NOP (ED undefined, 80-9F)`, 11101101 100xxxxx, R252. -/
  | nopEd80 (p : Code2) (z : Code3)
  /-- `NOP (ED undefined, A4-A7/AC-AF/B4-B7/BC-BF)`, 11101101 101xx1xx, R252. -/
  | nopEdA4 (p : Code2) (w : Code2)
  /-- `ADD XY,rr`, 11x11101 00pp1001, R261. -/
  | addXyRr (xy : IndexReg) (pp : IndexPair)
  /-- `LD XY,nn`, 11x11101 00100001 nnnnnnnn nnnnnnnn, R171. -/
  | ldXyNn (xy : IndexReg) (nn : Word)
  /-- `LD (nn),XY`, 11x11101 00100010 nnnnnnnn nnnnnnnn, R177. -/
  | ldMNnXy (xy : IndexReg) (nn : Word)
  /-- `LD XY,(nn)`, 11x11101 00101010 nnnnnnnn nnnnnnnn, R174. -/
  | ldXyMNn (xy : IndexReg) (nn : Word)
  /-- `INC XY`, 11x11101 00100011, R265. -/
  | incXy (xy : IndexReg)
  /-- `DEC XY`, 11x11101 00101011, R267. -/
  | decXy (xy : IndexReg)
  /-- `INC (XY+d)`, 11x11101 00110100 dddddddd, R224. -/
  | incMXyd (xy : IndexReg) (d : Byte)
  /-- `DEC (XY+d)`, 11x11101 00110101 dddddddd, R227. -/
  | decMXyd (xy : IndexReg) (d : Byte)
  /-- `LD (XY+d),n`, 11x11101 00110110 dddddddd nnnnnnnn, R147. -/
  | ldMXydN (xy : IndexReg) (d : Byte) (n : Byte)
  /-- `LD r,(XY+d)`, 11x11101 01rrr110 dddddddd, R143. -/
  | ldRMXyd (r : Reg8) (xy : IndexReg) (d : Byte)
  /-- `LD (XY+d),r`, 11x11101 01110rrr dddddddd, R145. -/
  | ldMXydR (xy : IndexReg) (d : Byte) (r : Reg8)
  /-- `ADD A,(XY+d)`, 11x11101 10000110 dddddddd, R214. -/
  | addMXyd (xy : IndexReg) (d : Byte)
  /-- `ADC A,(XY+d)`, 11x11101 10001110 dddddddd, R215. -/
  | adcMXyd (xy : IndexReg) (d : Byte)
  /-- `SUB (XY+d)`, 11x11101 10010110 dddddddd, R216. -/
  | subMXyd (xy : IndexReg) (d : Byte)
  /-- `SBC A,(XY+d)`, 11x11101 10011110 dddddddd, R217. -/
  | sbcMXyd (xy : IndexReg) (d : Byte)
  /-- `AND (XY+d)`, 11x11101 10100110 dddddddd, R218. -/
  | andMXyd (xy : IndexReg) (d : Byte)
  /-- `XOR (XY+d)`, 11x11101 10101110 dddddddd, R219. -/
  | xorMXyd (xy : IndexReg) (d : Byte)
  /-- `OR (XY+d)`, 11x11101 10110110 dddddddd, R220. -/
  | orMXyd (xy : IndexReg) (d : Byte)
  /-- `CP (XY+d)`, 11x11101 10111110 dddddddd, R221. -/
  | cpMXyd (xy : IndexReg) (d : Byte)
  /-- `POP XY`, 11x11101 11100001, R183. -/
  | popXy (xy : IndexReg)
  /-- `EX (SP),XY`, 11x11101 11100011, R194. -/
  | exMSpXy (xy : IndexReg)
  /-- `PUSH XY`, 11x11101 11100101, R181. -/
  | pushXy (xy : IndexReg)
  /-- `JP (XY)`, 11x11101 11101001, R306. -/
  | jpXy (xy : IndexReg)
  /-- `LD SP,XY`, 11x11101 11111001, R179. -/
  | ldSpXy (xy : IndexReg)
  /-- `INC XYH/XYL`, 11x11101 0010h100, R228. -/
  | incXyh (xy : IndexReg) (h : Half)
  /-- `DEC XYH/XYL`, 11x11101 0010h101, R228. -/
  | decXyh (xy : IndexReg) (h : Half)
  /-- `LD XYH/XYL,n`, 11x11101 0010h110 nnnnnnnn, R159. -/
  | ldXyhN (xy : IndexReg) (h : Half) (n : Byte)
  /-- `LD r,r' (index halves)`, 11x11101 01dddsss, R158. -/
  | ldRRXyh (xy : IndexReg) (dst : HalfReg) (src : HalfReg)
  /-- `ADD A,XYH/XYL`, 11x11101 1000010h, R214. -/
  | addXyh (xy : IndexReg) (h : Half)
  /-- `ADC A,XYH/XYL`, 11x11101 1000110h, R215. -/
  | adcXyh (xy : IndexReg) (h : Half)
  /-- `SUB XYH/XYL`, 11x11101 1001010h, R216. -/
  | subXyh (xy : IndexReg) (h : Half)
  /-- `SBC A,XYH/XYL`, 11x11101 1001110h, R217. -/
  | sbcXyh (xy : IndexReg) (h : Half)
  /-- `AND XYH/XYL`, 11x11101 1010010h, R218. -/
  | andXyh (xy : IndexReg) (h : Half)
  /-- `XOR XYH/XYL`, 11x11101 1010110h, R219. -/
  | xorXyh (xy : IndexReg) (h : Half)
  /-- `OR XYH/XYL`, 11x11101 1011010h, R220. -/
  | orXyh (xy : IndexReg) (h : Half)
  /-- `CP XYH/XYL`, 11x11101 1011110h, R221. -/
  | cpXyh (xy : IndexReg) (h : Half)
  /-- `ignored index prefix`, 11x11101, R104. -/
  | ignoredIndexPrefix (xy : IndexReg)
  /-- `RLC (XY+d)`, 11x11101 11001011 dddddddd 00000110, R275. -/
  | rlcMXyd (xy : IndexReg) (d : Byte)
  /-- `RLC (XY+d),r`, 11x11101 11001011 dddddddd 00000sss, R275. -/
  | rlcMXydR (xy : IndexReg) (d : Byte) (r : Reg8)
  /-- `RRC (XY+d)`, 11x11101 11001011 dddddddd 00001110, R276. -/
  | rrcMXyd (xy : IndexReg) (d : Byte)
  /-- `RRC (XY+d),r`, 11x11101 11001011 dddddddd 00001sss, R276. -/
  | rrcMXydR (xy : IndexReg) (d : Byte) (r : Reg8)
  /-- `RL (XY+d)`, 11x11101 11001011 dddddddd 00010110, R277. -/
  | rlMXyd (xy : IndexReg) (d : Byte)
  /-- `RL (XY+d),r`, 11x11101 11001011 dddddddd 00010sss, R277. -/
  | rlMXydR (xy : IndexReg) (d : Byte) (r : Reg8)
  /-- `RR (XY+d)`, 11x11101 11001011 dddddddd 00011110, R278. -/
  | rrMXyd (xy : IndexReg) (d : Byte)
  /-- `RR (XY+d),r`, 11x11101 11001011 dddddddd 00011sss, R278. -/
  | rrMXydR (xy : IndexReg) (d : Byte) (r : Reg8)
  /-- `SLA (XY+d)`, 11x11101 11001011 dddddddd 00100110, R279. -/
  | slaMXyd (xy : IndexReg) (d : Byte)
  /-- `SLA (XY+d),r`, 11x11101 11001011 dddddddd 00100sss, R279. -/
  | slaMXydR (xy : IndexReg) (d : Byte) (r : Reg8)
  /-- `SRA (XY+d)`, 11x11101 11001011 dddddddd 00101110, R280. -/
  | sraMXyd (xy : IndexReg) (d : Byte)
  /-- `SRA (XY+d),r`, 11x11101 11001011 dddddddd 00101sss, R280. -/
  | sraMXydR (xy : IndexReg) (d : Byte) (r : Reg8)
  /-- `SLL (XY+d)`, 11x11101 11001011 dddddddd 00110110, R281. -/
  | sllMXyd (xy : IndexReg) (d : Byte)
  /-- `SLL (XY+d),r`, 11x11101 11001011 dddddddd 00110sss, R281. -/
  | sllMXydR (xy : IndexReg) (d : Byte) (r : Reg8)
  /-- `SRL (XY+d)`, 11x11101 11001011 dddddddd 00111110, R282. -/
  | srlMXyd (xy : IndexReg) (d : Byte)
  /-- `SRL (XY+d),r`, 11x11101 11001011 dddddddd 00111sss, R282. -/
  | srlMXydR (xy : IndexReg) (d : Byte) (r : Reg8)
  /-- `BIT b,(XY+d)`, 11x11101 11001011 dddddddd 01bbb110, R292. -/
  | bitMXyd (xy : IndexReg) (d : Byte) (b : Code3)
  /-- `BIT b,(XY+d) (alias)`, 11x11101 11001011 dddddddd 01bbbsss, R292. -/
  | bitMXydAlias (xy : IndexReg) (d : Byte) (b : Code3) (r : Reg8)
  /-- `RES b,(XY+d)`, 11x11101 11001011 dddddddd 10bbb110, R298. -/
  | resMXyd (xy : IndexReg) (d : Byte) (b : Code3)
  /-- `RES b,(XY+d),r`, 11x11101 11001011 dddddddd 10bbbsss, R298. -/
  | resMXydR (xy : IndexReg) (d : Byte) (b : Code3) (r : Reg8)
  /-- `SET b,(XY+d)`, 11x11101 11001011 dddddddd 11bbb110, R295. -/
  | setMXyd (xy : IndexReg) (d : Byte) (b : Code3)
  /-- `SET b,(XY+d),r`, 11x11101 11001011 dddddddd 11bbbsss, R295. -/
  | setMXydR (xy : IndexReg) (d : Byte) (b : Code3) (r : Reg8)
  deriving DecidableEq, Repr

end Sys2Proof
end

