-- ==== Sys2Proof/WellFormed.lean ====
section
/-! DEFINITION. Which instruction terms stand for an encoding: the constraints of spec/opcode_table.json that the operand
types do not already express. -/

namespace Sys2Proof

/-- XYH or XYL (R158). -/
def HalfReg.isHalf : HalfReg → Bool
  | .xyh | .xyl => true
  | .b | .c | .d | .e | .a => false

/-- An instruction term is well formed when its row of the opcode table admits its operands:
`LD r,r' (index halves)` names at least one half (R158); `NEG (alias)` has yyy ≠ 000 (R251); `RETN (alias)` has yyy not in
000, 001 (R318); `IM (alias)` has yyy in 001, 100, 101, 110, 111 (R253). -/
def Instr.wf : Instr → Bool
  | .ldRRXyh _ dst src => dst.isHalf || src.isHalf
  | .negAlias y => y != .k0
  | .retnAlias y => y != .k0 && y != .k1
  | .imAlias y => y == .k1 || y == .k4 || y == .k5 || y == .k6 || y == .k7
  | .nop | .exAfAf | .djnz .. | .jr .. | .jrCc .. | .ldRrNn .. | .addHlRr .. | .ldMBcA | .ldMDeA | .ldMNnHl ..
  | .ldMNnA .. | .ldAMBc | .ldAMDe | .ldHlMNn .. | .ldAMNn .. | .incRr .. | .decRr .. | .incR .. | .incMHl | .decR ..
  | .decMHl | .ldRN .. | .ldMHlN .. | .rlca | .rrca | .rla | .rra | .daa | .cpl | .scf | .ccf | .ldRR .. | .ldRMHl ..
  | .ldMHlR .. | .halt | .addR .. | .addMHl | .addN .. | .adcR .. | .adcMHl | .adcN .. | .subR .. | .subMHl | .subN ..
  | .sbcR .. | .sbcMHl | .sbcN .. | .andR .. | .andMHl | .andN .. | .xorR .. | .xorMHl | .xorN .. | .orR .. | .orMHl
  | .orN .. | .cpR .. | .cpMHl | .cpN .. | .retCc .. | .popQq .. | .ret | .exx | .jpHl | .ldSpHl | .jpCc .. | .jp ..
  | .outNA .. | .inAN .. | .exMSpHl | .exDeHl | .di | .ei | .callCc .. | .pushQq .. | .call .. | .rst .. | .rlcR ..
  | .rlcMHl | .rrcR .. | .rrcMHl | .rlR .. | .rlMHl | .rrR .. | .rrMHl | .slaR .. | .slaMHl | .sraR .. | .sraMHl
  | .sllR .. | .sllMHl | .srlR .. | .srlMHl | .bitR .. | .bitMHl .. | .resR .. | .resMHl .. | .setR .. | .setMHl ..
  | .inRC .. | .inFC | .outCR .. | .outC0 | .sbcHlRr .. | .adcHlRr .. | .ldMNnRr .. | .ldRrMNn .. | .neg | .retn
  | .reti | .im0 | .im1 | .im2 | .ldIA | .ldRA | .ldAI | .ldAR | .rrd | .rld | .nopEd77 .. | .ldi | .cpi | .ini
  | .outi | .ldd | .cpd | .ind | .outd | .ldir | .cpir | .inir | .otir | .lddr | .cpdr | .indr | .otdr | .nopEdX0 ..
  | .nopEdX3 .. | .nopEd80 .. | .nopEdA4 .. | .addXyRr .. | .ldXyNn .. | .ldMNnXy .. | .ldXyMNn .. | .incXy ..
  | .decXy .. | .incMXyd .. | .decMXyd .. | .ldMXydN .. | .ldRMXyd .. | .ldMXydR .. | .addMXyd .. | .adcMXyd ..
  | .subMXyd .. | .sbcMXyd .. | .andMXyd .. | .xorMXyd .. | .orMXyd .. | .cpMXyd .. | .popXy .. | .exMSpXy ..
  | .pushXy .. | .jpXy .. | .ldSpXy .. | .incXyh .. | .decXyh .. | .ldXyhN .. | .addXyh .. | .adcXyh .. | .subXyh ..
  | .sbcXyh .. | .andXyh .. | .xorXyh .. | .orXyh .. | .cpXyh .. | .ignoredIndexPrefix .. | .rlcMXyd .. | .rlcMXydR ..
  | .rrcMXyd .. | .rrcMXydR .. | .rlMXyd .. | .rlMXydR .. | .rrMXyd .. | .rrMXydR .. | .slaMXyd .. | .slaMXydR ..
  | .sraMXyd .. | .sraMXydR .. | .sllMXyd .. | .sllMXydR .. | .srlMXyd .. | .srlMXydR .. | .bitMXyd ..
  | .bitMXydAlias .. | .resMXyd .. | .resMXydR .. | .setMXyd .. | .setMXydR .. => true

end Sys2Proof
end

