-- ==== Sys2Proof/Decode.lean ====
section
/-! DEFINITION. Decoding bytes to instructions by the maps of 30_encoding.md (R90 to R109), and the encoder from the same
tables. -/

namespace Sys2Proof

open Machine

/-! ### Fields of an opcode byte (R92) -/

/-- Two bits, the high one first, as a field value. -/
def Code2.ofBits : Bool → Bool → Code2
  | false, false => .k0
  | false, true => .k1
  | true, false => .k2
  | true, true => .k3

/-- Three bits, the highest first, as a field value. -/
def Code3.ofBits : Bool → Bool → Bool → Code3
  | false, false, false => .k0
  | false, false, true => .k1
  | false, true, false => .k2
  | false, true, true => .k3
  | true, false, false => .k4
  | true, false, true => .k5
  | true, true, false => .k6
  | true, true, true => .k7

/-- The bits of a two-bit field value. -/
def Code2.bits : Code2 → BitVec 2
  | .k0 => 0#2
  | .k1 => 1#2
  | .k2 => 2#2
  | .k3 => 3#2

/-- The bits of a three-bit field value. -/
def Code3.bits : Code3 → BitVec 3
  | .k0 => 0#3
  | .k1 => 1#3
  | .k2 => 2#3
  | .k3 => 3#3
  | .k4 => 4#3
  | .k5 => 5#3
  | .k6 => 6#3
  | .k7 => 7#3

/-- The number a three-bit field value stands for (a bit number, a restart number). -/
def Code3.num : Code3 → Nat
  | .k0 => 0
  | .k1 => 1
  | .k2 => 2
  | .k3 => 3
  | .k4 => 4
  | .k5 => 5
  | .k6 => 6
  | .k7 => 7

/-- `x = op[7:6]`. -/
def fieldX (op : Byte) : Code2 := Code2.ofBits (op.getLsbD 7) (op.getLsbD 6)

/-- `y = op[5:3]`. -/
def fieldY (op : Byte) : Code3 := Code3.ofBits (op.getLsbD 5) (op.getLsbD 4) (op.getLsbD 3)

/-- `z = op[2:0]`. -/
def fieldZ (op : Byte) : Code3 := Code3.ofBits (op.getLsbD 2) (op.getLsbD 1) (op.getLsbD 0)

/-- `p = op[5:4]`. -/
def fieldP (op : Byte) : Code2 := Code2.ofBits (op.getLsbD 5) (op.getLsbD 4)

/-- `q = op[3]`. -/
def fieldQ (op : Byte) : Bool := op.getLsbD 3

/-- `op[1:0]`. -/
def fieldW (op : Byte) : Code2 := Code2.ofBits (op.getLsbD 1) (op.getLsbD 0)

/-- The opcode byte with the fields x, y, z. -/
def opXYZ (x : Code2) (y z : Code3) : Byte := x.bits ++ y.bits ++ z.bits

/-- The opcode byte with the fields x, p, q, z. -/
def opXPQZ (x p : Code2) (q : Bool) (z : Code3) : Byte := x.bits ++ p.bits ++ BitVec.ofBool q ++ z.bits

/-! ### The code tables (R94 to R99) -/

/-- `R8[k]` (R94): none for code 6, which is memory. -/
def Reg8.ofCode : Code3 → Option Reg8
  | .k0 => some .b
  | .k1 => some .c
  | .k2 => some .d
  | .k3 => some .e
  | .k4 => some .h
  | .k5 => some .l
  | .k6 => none
  | .k7 => some .a

/-- The code of a register in `R8` (R94). -/
def Reg8.code : Reg8 → Code3
  | .b => .k0
  | .c => .k1
  | .d => .k2
  | .e => .k3
  | .h => .k4
  | .l => .k5
  | .a => .k7

/-- `RP[p]` (R95). -/
def RegPair.ofCode : Code2 → RegPair
  | .k0 => .bc
  | .k1 => .de
  | .k2 => .hl
  | .k3 => .sp

/-- The code of a pair in `RP` (R95). -/
def RegPair.code : RegPair → Code2
  | .bc => .k0
  | .de => .k1
  | .hl => .k2
  | .sp => .k3

/-- `RP2[p]` (R96). -/
def StackPair.ofCode : Code2 → StackPair
  | .k0 => .bc
  | .k1 => .de
  | .k2 => .hl
  | .k3 => .af

/-- The code of a pair in `RP2` (R96). -/
def StackPair.code : StackPair → Code2
  | .bc => .k0
  | .de => .k1
  | .hl => .k2
  | .af => .k3

/-- `CC[k]` (R97). -/
def Cond.ofCode : Code3 → Cond
  | .k0 => .nz
  | .k1 => .z
  | .k2 => .nc
  | .k3 => .c
  | .k4 => .po
  | .k5 => .pe
  | .k6 => .p
  | .k7 => .m

/-- The code of a condition in `CC` (R97). -/
def Cond.code : Cond → Code3
  | .nz => .k0
  | .z => .k1
  | .nc => .k2
  | .c => .k3
  | .po => .k4
  | .pe => .k5
  | .p => .k6
  | .m => .k7

/-- The `y` field of `JR cc,e`: `1cc`, so CC[0..3] stand at codes 4 to 7 (R97, R304). -/
def JrCond.code : JrCond → Code3
  | .nz => .k4
  | .z => .k5
  | .nc => .k6
  | .c => .k7

/-- The index prefix byte: bit 5 selects the register (R92). -/
def IndexReg.byte : IndexReg → Byte
  | .ix => 0xDD#8
  | .iy => 0xFD#8

/-- The bit that tells XYH from XYL: 0 for XYH, 1 for XYL (R159, R213, R228). -/
def Half.bit : Half → Bool
  | .high => false
  | .low => true

/-- The code of a half in `R8` under an index prefix (R94). -/
def Half.code : Half → Code3
  | .high => .k4
  | .low => .k5

/-- `RP[p]` under an index prefix (R95). -/
def IndexPair.ofCode : Code2 → IndexPair
  | .k0 => .bc
  | .k1 => .de
  | .k2 => .xy
  | .k3 => .sp

/-- The code of a pair in `RP` under an index prefix (R95). -/
def IndexPair.code : IndexPair → Code2
  | .bc => .k0
  | .de => .k1
  | .xy => .k2
  | .sp => .k3

/-- `R8[k]` with codes 4 and 5 read as XYH and XYL (R158): none for code 6. -/
def HalfReg.ofCode : Code3 → Option HalfReg
  | .k0 => some .b
  | .k1 => some .c
  | .k2 => some .d
  | .k3 => some .e
  | .k4 => some .xyh
  | .k5 => some .xyl
  | .k6 => none
  | .k7 => some .a

/-- The code of a register or half (R158). -/
def HalfReg.code : HalfReg → Code3
  | .b => .k0
  | .c => .k1
  | .d => .k2
  | .e => .k3
  | .xyh => .k4
  | .xyl => .k5
  | .a => .k7

/-! ### The maps -/

/-- The ALU operation of code `y` on a register (R98, form `r` of R213). -/
def aluOnReg (y : Code3) (r : Reg8) : Instr :=
  match y with
  | .k0 => .addR r
  | .k1 => .adcR r
  | .k2 => .subR r
  | .k3 => .sbcR r
  | .k4 => .andR r
  | .k5 => .xorR r
  | .k6 => .orR r
  | .k7 => .cpR r

/-- The ALU operation of code `y` on memory at HL (R98, form `(HL)` of R213). -/
def aluOnMHl : Code3 → Instr
  | .k0 => .addMHl
  | .k1 => .adcMHl
  | .k2 => .subMHl
  | .k3 => .sbcMHl
  | .k4 => .andMHl
  | .k5 => .xorMHl
  | .k6 => .orMHl
  | .k7 => .cpMHl

/-- The ALU operation of code `y` on an immediate (R98, form `n` of R213). -/
def aluOnImm (y : Code3) (n : Byte) : Instr :=
  match y with
  | .k0 => .addN n
  | .k1 => .adcN n
  | .k2 => .subN n
  | .k3 => .sbcN n
  | .k4 => .andN n
  | .k5 => .xorN n
  | .k6 => .orN n
  | .k7 => .cpN n

/-- The ALU operation of code `y` on indexed memory (R98, form `(XY+d)` of R213). -/
def aluOnMXyd (y : Code3) (xy : IndexReg) (d : Byte) : Instr :=
  match y with
  | .k0 => .addMXyd xy d
  | .k1 => .adcMXyd xy d
  | .k2 => .subMXyd xy d
  | .k3 => .sbcMXyd xy d
  | .k4 => .andMXyd xy d
  | .k5 => .xorMXyd xy d
  | .k6 => .orMXyd xy d
  | .k7 => .cpMXyd xy d

/-- The ALU operation of code `y` on an index half (R98, form `XYH`/`XYL` of R213). -/
def aluOnHalf (y : Code3) (xy : IndexReg) (h : Half) : Instr :=
  match y with
  | .k0 => .addXyh xy h
  | .k1 => .adcXyh xy h
  | .k2 => .subXyh xy h
  | .k3 => .sbcXyh xy h
  | .k4 => .andXyh xy h
  | .k5 => .xorXyh xy h
  | .k6 => .orXyh xy h
  | .k7 => .cpXyh xy h

/-- The rotate or shift of code `y` on a register (R99). -/
def rotOnReg (y : Code3) (r : Reg8) : Instr :=
  match y with
  | .k0 => .rlcR r
  | .k1 => .rrcR r
  | .k2 => .rlR r
  | .k3 => .rrR r
  | .k4 => .slaR r
  | .k5 => .sraR r
  | .k6 => .sllR r
  | .k7 => .srlR r

/-- The rotate or shift of code `y` on memory at HL (R99). -/
def rotOnMHl : Code3 → Instr
  | .k0 => .rlcMHl
  | .k1 => .rrcMHl
  | .k2 => .rlMHl
  | .k3 => .rrMHl
  | .k4 => .slaMHl
  | .k5 => .sraMHl
  | .k6 => .sllMHl
  | .k7 => .srlMHl

/-- The rotate or shift of code `y` on indexed memory (R99, R105). -/
def rotOnMXyd (y : Code3) (xy : IndexReg) (d : Byte) : Instr :=
  match y with
  | .k0 => .rlcMXyd xy d
  | .k1 => .rrcMXyd xy d
  | .k2 => .rlMXyd xy d
  | .k3 => .rrMXyd xy d
  | .k4 => .slaMXyd xy d
  | .k5 => .sraMXyd xy d
  | .k6 => .sllMXyd xy d
  | .k7 => .srlMXyd xy d

/-- The rotate or shift of code `y` on indexed memory, with a copy of the result to a register (R99, R105). -/
def rotOnMXydR (y : Code3) (xy : IndexReg) (d : Byte) (r : Reg8) : Instr :=
  match y with
  | .k0 => .rlcMXydR xy d r
  | .k1 => .rrcMXydR xy d r
  | .k2 => .rlMXydR xy d r
  | .k3 => .rrMXydR xy d r
  | .k4 => .slaMXydR xy d r
  | .k5 => .sraMXydR xy d r
  | .k6 => .sllMXydR xy d r
  | .k7 => .srlMXydR xy d r

/-- The unprefixed map (R100): `op` is the first byte, `b1` and `b2` the bytes after it. The four prefix bytes do not come
here; their cells answer NOP. -/
def decodeMain (op b1 b2 : Byte) : Instr :=
  let y := fieldY op
  let p := fieldP op
  let q := fieldQ op
  let nn := leWord b1 b2
  match fieldX op with
  | .k0 =>
    match fieldZ op with
    | .k0 =>
      match y with
      | .k0 => .nop
      | .k1 => .exAfAf
      | .k2 => .djnz b1
      | .k3 => .jr b1
      | .k4 => .jrCc .nz b1
      | .k5 => .jrCc .z b1
      | .k6 => .jrCc .nc b1
      | .k7 => .jrCc .c b1
    | .k1 => if q then .addHlRr (RegPair.ofCode p) else .ldRrNn (RegPair.ofCode p) nn
    | .k2 =>
      match y with
      | .k0 => .ldMBcA
      | .k1 => .ldAMBc
      | .k2 => .ldMDeA
      | .k3 => .ldAMDe
      | .k4 => .ldMNnHl nn
      | .k5 => .ldHlMNn nn
      | .k6 => .ldMNnA nn
      | .k7 => .ldAMNn nn
    | .k3 => if q then .decRr (RegPair.ofCode p) else .incRr (RegPair.ofCode p)
    | .k4 =>
      match Reg8.ofCode y with
      | some r => .incR r
      | none => .incMHl
    | .k5 =>
      match Reg8.ofCode y with
      | some r => .decR r
      | none => .decMHl
    | .k6 =>
      match Reg8.ofCode y with
      | some r => .ldRN r b1
      | none => .ldMHlN b1
    | .k7 =>
      match y with
      | .k0 => .rlca
      | .k1 => .rrca
      | .k2 => .rla
      | .k3 => .rra
      | .k4 => .daa
      | .k5 => .cpl
      | .k6 => .scf
      | .k7 => .ccf
  | .k1 =>
    match Reg8.ofCode y, Reg8.ofCode (fieldZ op) with
    | some dst, some src => .ldRR dst src
    | some dst, none => .ldRMHl dst
    | none, some src => .ldMHlR src
    | none, none => .halt
  | .k2 =>
    match Reg8.ofCode (fieldZ op) with
    | some r => aluOnReg y r
    | none => aluOnMHl y
  | .k3 =>
    match fieldZ op with
    | .k0 => .retCc (Cond.ofCode y)
    | .k1 =>
      if q then
        match p with
        | .k0 => .ret
        | .k1 => .exx
        | .k2 => .jpHl
        | .k3 => .ldSpHl
      else .popQq (StackPair.ofCode p)
    | .k2 => .jpCc (Cond.ofCode y) nn
    | .k3 =>
      match y with
      | .k0 => .jp nn
      | .k1 => .nop
      | .k2 => .outNA b1
      | .k3 => .inAN b1
      | .k4 => .exMSpHl
      | .k5 => .exDeHl
      | .k6 => .di
      | .k7 => .ei
    | .k4 => .callCc (Cond.ofCode y) nn
    | .k5 =>
      if q then
        match p with
        | .k0 => .call nn
        | .k1 => .nop
        | .k2 => .nop
        | .k3 => .nop
      else .pushQq (StackPair.ofCode p)
    | .k6 => aluOnImm y b1
    | .k7 => .rst y

/-- The CB map (R101): `op` is the byte after 0xCB. -/
def decodeCB (op : Byte) : Instr :=
  let y := fieldY op
  match fieldX op, Reg8.ofCode (fieldZ op) with
  | .k0, some r => rotOnReg y r
  | .k0, none => rotOnMHl y
  | .k1, some r => .bitR y r
  | .k1, none => .bitMHl y
  | .k2, some r => .resR y r
  | .k2, none => .resMHl y
  | .k3, some r => .setR y r
  | .k3, none => .setMHl y

/-- The ED map's block cells (R102): `x = 2`, rows A_ and B_, by `y` = 4 (A0-A7) to 7 (B8-BF) and the low two bits. -/
def decodeBlock (y : Code3) (w : Code2) : Instr :=
  match y, w with
  | .k4, .k0 => .ldi
  | .k4, .k1 => .cpi
  | .k4, .k2 => .ini
  | .k4, .k3 => .outi
  | .k5, .k0 => .ldd
  | .k5, .k1 => .cpd
  | .k5, .k2 => .ind
  | .k5, .k3 => .outd
  | .k6, .k0 => .ldir
  | .k6, .k1 => .cpir
  | .k6, .k2 => .inir
  | .k6, .k3 => .otir
  | .k7, .k0 => .lddr
  | .k7, .k1 => .cpdr
  | .k7, .k2 => .indr
  | .k7, .k3 => .otdr
  | .k0, _ => .nop
  | .k1, _ => .nop
  | .k2, _ => .nop
  | .k3, _ => .nop

/-- The ED map (R102): `op` is the byte after 0xED, `b2` and `b3` the bytes after it. -/
def decodeED (op b2 b3 : Byte) : Instr :=
  let y := fieldY op
  let p := fieldP op
  let q := fieldQ op
  let nn := leWord b2 b3
  match fieldX op with
  | .k0 => .nopEdX0 y (fieldZ op)
  | .k1 =>
    match fieldZ op with
    | .k0 =>
      match Reg8.ofCode y with
      | some r => .inRC r
      | none => .inFC
    | .k1 =>
      match Reg8.ofCode y with
      | some r => .outCR r
      | none => .outC0
    | .k2 => if q then .adcHlRr (RegPair.ofCode p) else .sbcHlRr (RegPair.ofCode p)
    | .k3 => if q then .ldRrMNn (RegPair.ofCode p) nn else .ldMNnRr (RegPair.ofCode p) nn
    | .k4 =>
      match y with
      | .k0 => .neg
      | .k1 => .negAlias .k1
      | .k2 => .negAlias .k2
      | .k3 => .negAlias .k3
      | .k4 => .negAlias .k4
      | .k5 => .negAlias .k5
      | .k6 => .negAlias .k6
      | .k7 => .negAlias .k7
    | .k5 =>
      match y with
      | .k0 => .retn
      | .k1 => .reti
      | .k2 => .retnAlias .k2
      | .k3 => .retnAlias .k3
      | .k4 => .retnAlias .k4
      | .k5 => .retnAlias .k5
      | .k6 => .retnAlias .k6
      | .k7 => .retnAlias .k7
    | .k6 =>
      match y with
      | .k0 => .im0
      | .k1 => .imAlias .k1
      | .k2 => .im1
      | .k3 => .im2
      | .k4 => .imAlias .k4
      | .k5 => .imAlias .k5
      | .k6 => .imAlias .k6
      | .k7 => .imAlias .k7
    | .k7 =>
      match y with
      | .k0 => .ldIA
      | .k1 => .ldRA
      | .k2 => .ldAI
      | .k3 => .ldAR
      | .k4 => .rrd
      | .k5 => .rld
      | .k6 => .nopEd77 false
      | .k7 => .nopEd77 true
  | .k2 =>
    match op.getLsbD 5, op.getLsbD 2 with
    | false, _ => .nopEd80 (Code2.ofBits (op.getLsbD 4) (op.getLsbD 3)) (fieldZ op)
    | true, true => .nopEdA4 (Code2.ofBits (op.getLsbD 4) (op.getLsbD 3)) (fieldW op)
    | true, false => decodeBlock y (fieldW op)
  | .k3 => .nopEdX3 y (fieldZ op)

/-- The DD/FD map (R103): `op` is the byte after the index prefix (not 0xCB), `b2` and `b3` the bytes after it. Every cell
that reads `= X` is the ignored prefix (R104). -/
def decodeIndexed (xy : IndexReg) (op b2 b3 : Byte) : Instr :=
  let y := fieldY op
  let p := fieldP op
  let q := fieldQ op
  let nn := leWord b2 b3
  match fieldX op with
  | .k0 =>
    match fieldZ op with
    | .k0 => .ignoredIndexPrefix xy
    | .k1 =>
      if q then .addXyRr xy (IndexPair.ofCode p)
      else
        match p with
        | .k2 => .ldXyNn xy nn
        | .k0 | .k1 | .k3 => .ignoredIndexPrefix xy
    | .k2 =>
      match y with
      | .k4 => .ldMNnXy xy nn
      | .k5 => .ldXyMNn xy nn
      | .k0 | .k1 | .k2 | .k3 | .k6 | .k7 => .ignoredIndexPrefix xy
    | .k3 =>
      match p with
      | .k2 => if q then .decXy xy else .incXy xy
      | .k0 | .k1 | .k3 => .ignoredIndexPrefix xy
    | .k4 =>
      match y with
      | .k4 => .incXyh xy .high
      | .k5 => .incXyh xy .low
      | .k6 => .incMXyd xy b2
      | .k0 | .k1 | .k2 | .k3 | .k7 => .ignoredIndexPrefix xy
    | .k5 =>
      match y with
      | .k4 => .decXyh xy .high
      | .k5 => .decXyh xy .low
      | .k6 => .decMXyd xy b2
      | .k0 | .k1 | .k2 | .k3 | .k7 => .ignoredIndexPrefix xy
    | .k6 =>
      match y with
      | .k4 => .ldXyhN xy .high b2
      | .k5 => .ldXyhN xy .low b2
      | .k6 => .ldMXydN xy b2 b3
      | .k0 | .k1 | .k2 | .k3 | .k7 => .ignoredIndexPrefix xy
    | .k7 => .ignoredIndexPrefix xy
  | .k1 =>
    match HalfReg.ofCode y, HalfReg.ofCode (fieldZ op) with
    | none, none => .ignoredIndexPrefix xy
    | none, some _ =>
      match Reg8.ofCode (fieldZ op) with
      | some r => .ldMXydR xy b2 r
      | none => .ignoredIndexPrefix xy
    | some _, none =>
      match Reg8.ofCode y with
      | some r => .ldRMXyd r xy b2
      | none => .ignoredIndexPrefix xy
    | some dst, some src =>
      if dst.isHalf || src.isHalf then .ldRRXyh xy dst src else .ignoredIndexPrefix xy
  | .k2 =>
    match fieldZ op with
    | .k4 => aluOnHalf y xy .high
    | .k5 => aluOnHalf y xy .low
    | .k6 => aluOnMXyd y xy b2
    | .k0 | .k1 | .k2 | .k3 | .k7 => .ignoredIndexPrefix xy
  | .k3 =>
    match y, fieldZ op with
    | .k4, .k1 => .popXy xy
    | .k4, .k3 => .exMSpXy xy
    | .k4, .k5 => .pushXy xy
    | .k5, .k1 => .jpXy xy
    | .k7, .k1 => .ldSpXy xy
    | _, _ => .ignoredIndexPrefix xy

/-- The XYCB map (R105): `d` is the displacement and `op` the final opcode byte. -/
def decodeXYCB (xy : IndexReg) (d op : Byte) : Instr :=
  let y := fieldY op
  match fieldX op, Reg8.ofCode (fieldZ op) with
  | .k0, some r => rotOnMXydR y xy d r
  | .k0, none => rotOnMXyd y xy d
  | .k1, some r => .bitMXydAlias xy d y r
  | .k1, none => .bitMXyd xy d y
  | .k2, some r => .resMXydR xy d y r
  | .k2, none => .resMXyd xy d y
  | .k3, some r => .setMXydR xy d y r
  | .k3, none => .setMXyd xy d y

/-- The instruction that starts with the four bytes given, by the decode procedure of R106. It is total: every byte
sequence gives exactly one row. Bytes past the instruction's length do not matter; for an ignored index prefix the second
byte only classifies it (R104). -/
def decodeBytes (b0 b1 b2 b3 : Byte) : Instr :=
  if b0 = 0xCB#8 then decodeCB b1
  else if b0 = 0xED#8 then decodeED b1 b2 b3
  else if b0 = 0xDD#8 then
    if b1 = 0xCB#8 then decodeXYCB .ix b2 b3 else decodeIndexed .ix b1 b2 b3
  else if b0 = 0xFD#8 then
    if b1 = 0xCB#8 then decodeXYCB .iy b2 b3 else decodeIndexed .iy b1 b2 b3
  else decodeMain b0 b1 b2

/-- The `documented` column of spec/opcode_table.json: false for the encodings that have no handler under
`UNDOC_OPS = fault` (R107). -/
def Instr.documented : Instr → Bool
  | .sllR .. | .sllMHl | .inFC | .outC0 | .negAlias .. | .retnAlias .. | .imAlias .. | .nopEd77 .. | .nopEdX0 ..
  | .nopEdX3 .. | .nopEd80 .. | .nopEdA4 .. | .incXyh .. | .decXyh .. | .ldXyhN .. | .ldRRXyh .. | .addXyh ..
  | .adcXyh .. | .subXyh .. | .sbcXyh .. | .andXyh .. | .xorXyh .. | .orXyh .. | .cpXyh .. | .rlcMXydR ..
  | .rrcMXydR .. | .rlMXydR .. | .rrMXydR .. | .slaMXydR .. | .sraMXydR .. | .sllMXyd .. | .sllMXydR .. | .srlMXydR ..
  | .bitMXydAlias .. | .resMXydR .. | .setMXydR .. => false
  | .nop | .exAfAf | .djnz .. | .jr .. | .jrCc .. | .ldRrNn .. | .addHlRr .. | .ldMBcA | .ldMDeA | .ldMNnHl ..
  | .ldMNnA .. | .ldAMBc | .ldAMDe | .ldHlMNn .. | .ldAMNn .. | .incRr .. | .decRr .. | .incR .. | .incMHl | .decR ..
  | .decMHl | .ldRN .. | .ldMHlN .. | .rlca | .rrca | .rla | .rra | .daa | .cpl | .scf | .ccf | .ldRR .. | .ldRMHl ..
  | .ldMHlR .. | .halt | .addR .. | .addMHl | .addN .. | .adcR .. | .adcMHl | .adcN .. | .subR .. | .subMHl | .subN ..
  | .sbcR .. | .sbcMHl | .sbcN .. | .andR .. | .andMHl | .andN .. | .xorR .. | .xorMHl | .xorN .. | .orR .. | .orMHl
  | .orN .. | .cpR .. | .cpMHl | .cpN .. | .retCc .. | .popQq .. | .ret | .exx | .jpHl | .ldSpHl | .jpCc .. | .jp ..
  | .outNA .. | .inAN .. | .exMSpHl | .exDeHl | .di | .ei | .callCc .. | .pushQq .. | .call .. | .rst .. | .rlcR ..
  | .rlcMHl | .rrcR .. | .rrcMHl | .rlR .. | .rlMHl | .rrR .. | .rrMHl | .slaR .. | .slaMHl | .sraR .. | .sraMHl
  | .srlR .. | .srlMHl | .bitR .. | .bitMHl .. | .resR .. | .resMHl .. | .setR .. | .setMHl .. | .inRC .. | .outCR ..
  | .sbcHlRr .. | .adcHlRr .. | .ldMNnRr .. | .ldRrMNn .. | .neg | .retn | .reti | .im0 | .im1 | .im2 | .ldIA | .ldRA
  | .ldAI | .ldAR | .rrd | .rld | .ldi | .cpi | .ini | .outi | .ldd | .cpd | .ind | .outd | .ldir | .cpir | .inir
  | .otir | .lddr | .cpdr | .indr | .otdr | .addXyRr .. | .ldXyNn .. | .ldMNnXy .. | .ldXyMNn .. | .incXy ..
  | .decXy .. | .incMXyd .. | .decMXyd .. | .ldMXydN .. | .ldRMXyd .. | .ldMXydR .. | .addMXyd .. | .adcMXyd ..
  | .subMXyd .. | .sbcMXyd .. | .andMXyd .. | .xorMXyd .. | .orMXyd .. | .cpMXyd .. | .popXy .. | .exMSpXy ..
  | .pushXy .. | .jpXy .. | .ldSpXy .. | .ignoredIndexPrefix .. | .rlcMXyd .. | .rrcMXyd .. | .rlMXyd .. | .rrMXyd ..
  | .slaMXyd .. | .sraMXyd .. | .srlMXyd .. | .bitMXyd .. | .resMXyd .. | .setMXyd .. => true

/-- The `length` column of spec/opcode_table.json, in bytes (R90, R91). -/
def Instr.length : Instr → Nat
  | .nop | .exAfAf | .addHlRr .. | .ldMBcA | .ldMDeA | .ldAMBc | .ldAMDe | .incRr .. | .decRr .. | .incR .. | .incMHl
  | .decR .. | .decMHl | .rlca | .rrca | .rla | .rra | .daa | .cpl | .scf | .ccf | .ldRR .. | .ldRMHl .. | .ldMHlR ..
  | .halt | .addR .. | .addMHl | .adcR .. | .adcMHl | .subR .. | .subMHl | .sbcR .. | .sbcMHl | .andR .. | .andMHl
  | .xorR .. | .xorMHl | .orR .. | .orMHl | .cpR .. | .cpMHl | .retCc .. | .popQq .. | .ret | .exx | .jpHl | .ldSpHl
  | .exMSpHl | .exDeHl | .di | .ei | .pushQq .. | .rst .. | .ignoredIndexPrefix .. => 1
  | .djnz .. | .jr .. | .jrCc .. | .ldRN .. | .ldMHlN .. | .addN .. | .adcN .. | .subN .. | .sbcN .. | .andN ..
  | .xorN .. | .orN .. | .cpN .. | .outNA .. | .inAN .. | .rlcR .. | .rlcMHl | .rrcR .. | .rrcMHl | .rlR .. | .rlMHl
  | .rrR .. | .rrMHl | .slaR .. | .slaMHl | .sraR .. | .sraMHl | .sllR .. | .sllMHl | .srlR .. | .srlMHl | .bitR ..
  | .bitMHl .. | .resR .. | .resMHl .. | .setR .. | .setMHl .. | .inRC .. | .inFC | .outCR .. | .outC0 | .sbcHlRr ..
  | .adcHlRr .. | .neg | .negAlias .. | .retn | .reti | .retnAlias .. | .im0 | .im1 | .im2 | .imAlias .. | .ldIA
  | .ldRA | .ldAI | .ldAR | .rrd | .rld | .nopEd77 .. | .ldi | .cpi | .ini | .outi | .ldd | .cpd | .ind | .outd
  | .ldir | .cpir | .inir | .otir | .lddr | .cpdr | .indr | .otdr | .nopEdX0 .. | .nopEdX3 .. | .nopEd80 ..
  | .nopEdA4 .. | .addXyRr .. | .incXy .. | .decXy .. | .popXy .. | .exMSpXy .. | .pushXy .. | .jpXy .. | .ldSpXy ..
  | .incXyh .. | .decXyh .. | .ldRRXyh .. | .addXyh .. | .adcXyh .. | .subXyh .. | .sbcXyh .. | .andXyh ..
  | .xorXyh .. | .orXyh .. | .cpXyh .. => 2
  | .ldRrNn .. | .ldMNnHl .. | .ldMNnA .. | .ldHlMNn .. | .ldAMNn .. | .jpCc .. | .jp .. | .callCc .. | .call ..
  | .incMXyd .. | .decMXyd .. | .ldRMXyd .. | .ldMXydR .. | .addMXyd .. | .adcMXyd .. | .subMXyd .. | .sbcMXyd ..
  | .andMXyd .. | .xorMXyd .. | .orMXyd .. | .cpMXyd .. | .ldXyhN .. => 3
  | .ldMNnRr .. | .ldRrMNn .. | .ldXyNn .. | .ldMNnXy .. | .ldXyMNn .. | .ldMXydN .. | .rlcMXyd .. | .rlcMXydR ..
  | .rrcMXyd .. | .rrcMXydR .. | .rlMXyd .. | .rlMXydR .. | .rrMXyd .. | .rrMXydR .. | .slaMXyd .. | .slaMXydR ..
  | .sraMXyd .. | .sraMXydR .. | .sllMXyd .. | .sllMXydR .. | .srlMXyd .. | .srlMXydR .. | .bitMXyd ..
  | .bitMXydAlias .. | .resMXyd .. | .resMXydR .. | .setMXyd .. | .setMXydR .. => 4

/-- One of the four prefix bytes (R91). -/
def isPrefixByte (b : Byte) : Bool := b == 0xCB#8 || b == 0xED#8 || b == 0xDD#8 || b == 0xFD#8


/-- How many bytes decode reads when the first is `b0` and, for a prefix, the second is `b1`: the instruction's length,
and for an ignored index prefix also the byte that classifies it (R90, R106). -/
def bytesRead (b0 b1 : Byte) : Nat :=
  if isPrefixByte b0 then max 2 (decodeBytes b0 b1 0#8 0#8).length else (decodeBytes b0 0#8 0#8 0#8).length

/-- What decoding a list of bytes answers: an instruction and the bytes after it, or the rejection `truncated` when the
list ends before the bytes decode reads. No other rejection exists: the decoder is total on complete instructions (R106,
R107). -/
inductive Decoded where
  | instr (i : Instr) (rest : List Byte)
  | truncated
  deriving DecidableEq, Repr

/-- Decode from the front of a list of bytes (R106). -/
def decode (bytes : List Byte) : Decoded :=
  let b (k : Nat) : Byte := bytes.getD k 0#8
  if bytes = [] then .truncated
  else if bytes.length < bytesRead (b 0) (b 1) then .truncated
  else
    let i := decodeBytes (b 0) (b 1) (b 2) (b 3)
    .instr i (bytes.drop i.length)

/-- The bytes decode has read when it finds that an instruction has no handler (R106, R401, D16): two for CB, ED, DD and
FD forms, four for DDCB and FDCB forms, and three for the two DD and FD forms with an immediate byte, 26 and 2E. That R401's
"2 bytes" for DD and FD forms leaves those two aside is DEDUCED (log 11). -/
def faultBytes (b0 b1 b2 b3 : Byte) : List Byte := [b0, b1, b2, b3].take (bytesRead b0 b1)

/-! ### The encoder -/

/-- The two bytes of a 16-bit immediate, low byte first (R64). -/
def immBytes (nn : Word) : List Byte := [loByte nn, hiByte nn]

/-- An unprefixed opcode byte (R100). -/
def encMain (x : Code2) (y z : Code3) : List Byte := [opXYZ x y z]

/-- A CB-prefixed instruction (R101). -/
def encCB (x : Code2) (y z : Code3) : List Byte := [0xCB#8, opXYZ x y z]

/-- An ED-prefixed instruction (R102). -/
def encED (x : Code2) (y z : Code3) : List Byte := [0xED#8, opXYZ x y z]

/-- A DD- or FD-prefixed opcode (R103). -/
def encXY (xy : IndexReg) (x : Code2) (y z : Code3) : List Byte := [xy.byte, opXYZ x y z]

/-- A DDCB or FDCB instruction: the displacement stands before the final opcode byte (R91, R105). -/
def encXYCB (xy : IndexReg) (d : Byte) (x : Code2) (y z : Code3) : List Byte := [xy.byte, 0xCB#8, d, opXYZ x y z]

/-- The bytes of an instruction, from the lowest address up (R91, R100 to R105). -/
def encode : Instr → List Byte
  | .nop => encMain .k0 .k0 .k0
  | .exAfAf => encMain .k0 .k1 .k0
  | .djnz e => encMain .k0 .k2 .k0 ++ [e]
  | .jr e => encMain .k0 .k3 .k0 ++ [e]
  | .jrCc cc e => encMain .k0 cc.code .k0 ++ [e]
  | .ldRrNn rr nn => [opXPQZ .k0 rr.code false .k1] ++ immBytes nn
  | .addHlRr rr => [opXPQZ .k0 rr.code true .k1]
  | .ldMBcA => encMain .k0 .k0 .k2
  | .ldMDeA => encMain .k0 .k2 .k2
  | .ldMNnHl nn => encMain .k0 .k4 .k2 ++ immBytes nn
  | .ldMNnA nn => encMain .k0 .k6 .k2 ++ immBytes nn
  | .ldAMBc => encMain .k0 .k1 .k2
  | .ldAMDe => encMain .k0 .k3 .k2
  | .ldHlMNn nn => encMain .k0 .k5 .k2 ++ immBytes nn
  | .ldAMNn nn => encMain .k0 .k7 .k2 ++ immBytes nn
  | .incRr rr => [opXPQZ .k0 rr.code false .k3]
  | .decRr rr => [opXPQZ .k0 rr.code true .k3]
  | .incR r => encMain .k0 r.code .k4
  | .incMHl => encMain .k0 .k6 .k4
  | .decR r => encMain .k0 r.code .k5
  | .decMHl => encMain .k0 .k6 .k5
  | .ldRN r n => encMain .k0 r.code .k6 ++ [n]
  | .ldMHlN n => encMain .k0 .k6 .k6 ++ [n]
  | .rlca => encMain .k0 .k0 .k7
  | .rrca => encMain .k0 .k1 .k7
  | .rla => encMain .k0 .k2 .k7
  | .rra => encMain .k0 .k3 .k7
  | .daa => encMain .k0 .k4 .k7
  | .cpl => encMain .k0 .k5 .k7
  | .scf => encMain .k0 .k6 .k7
  | .ccf => encMain .k0 .k7 .k7
  | .ldRR dst src => encMain .k1 dst.code src.code
  | .ldRMHl r => encMain .k1 r.code .k6
  | .ldMHlR r => encMain .k1 .k6 r.code
  | .halt => encMain .k1 .k6 .k6
  | .addR r => encMain .k2 .k0 r.code
  | .addMHl => encMain .k2 .k0 .k6
  | .addN n => encMain .k3 .k0 .k6 ++ [n]
  | .adcR r => encMain .k2 .k1 r.code
  | .adcMHl => encMain .k2 .k1 .k6
  | .adcN n => encMain .k3 .k1 .k6 ++ [n]
  | .subR r => encMain .k2 .k2 r.code
  | .subMHl => encMain .k2 .k2 .k6
  | .subN n => encMain .k3 .k2 .k6 ++ [n]
  | .sbcR r => encMain .k2 .k3 r.code
  | .sbcMHl => encMain .k2 .k3 .k6
  | .sbcN n => encMain .k3 .k3 .k6 ++ [n]
  | .andR r => encMain .k2 .k4 r.code
  | .andMHl => encMain .k2 .k4 .k6
  | .andN n => encMain .k3 .k4 .k6 ++ [n]
  | .xorR r => encMain .k2 .k5 r.code
  | .xorMHl => encMain .k2 .k5 .k6
  | .xorN n => encMain .k3 .k5 .k6 ++ [n]
  | .orR r => encMain .k2 .k6 r.code
  | .orMHl => encMain .k2 .k6 .k6
  | .orN n => encMain .k3 .k6 .k6 ++ [n]
  | .cpR r => encMain .k2 .k7 r.code
  | .cpMHl => encMain .k2 .k7 .k6
  | .cpN n => encMain .k3 .k7 .k6 ++ [n]
  | .retCc cc => encMain .k3 cc.code .k0
  | .popQq qq => [opXPQZ .k3 qq.code false .k1]
  | .ret => [opXPQZ .k3 .k0 true .k1]
  | .exx => [opXPQZ .k3 .k1 true .k1]
  | .jpHl => [opXPQZ .k3 .k2 true .k1]
  | .ldSpHl => [opXPQZ .k3 .k3 true .k1]
  | .jpCc cc nn => encMain .k3 cc.code .k2 ++ immBytes nn
  | .jp nn => encMain .k3 .k0 .k3 ++ immBytes nn
  | .outNA n => encMain .k3 .k2 .k3 ++ [n]
  | .inAN n => encMain .k3 .k3 .k3 ++ [n]
  | .exMSpHl => encMain .k3 .k4 .k3
  | .exDeHl => encMain .k3 .k5 .k3
  | .di => encMain .k3 .k6 .k3
  | .ei => encMain .k3 .k7 .k3
  | .callCc cc nn => encMain .k3 cc.code .k4 ++ immBytes nn
  | .pushQq qq => [opXPQZ .k3 qq.code false .k5]
  | .call nn => [opXPQZ .k3 .k0 true .k5] ++ immBytes nn
  | .rst t => encMain .k3 t .k7
  | .rlcR r => encCB .k0 .k0 r.code
  | .rlcMHl => encCB .k0 .k0 .k6
  | .rrcR r => encCB .k0 .k1 r.code
  | .rrcMHl => encCB .k0 .k1 .k6
  | .rlR r => encCB .k0 .k2 r.code
  | .rlMHl => encCB .k0 .k2 .k6
  | .rrR r => encCB .k0 .k3 r.code
  | .rrMHl => encCB .k0 .k3 .k6
  | .slaR r => encCB .k0 .k4 r.code
  | .slaMHl => encCB .k0 .k4 .k6
  | .sraR r => encCB .k0 .k5 r.code
  | .sraMHl => encCB .k0 .k5 .k6
  | .sllR r => encCB .k0 .k6 r.code
  | .sllMHl => encCB .k0 .k6 .k6
  | .srlR r => encCB .k0 .k7 r.code
  | .srlMHl => encCB .k0 .k7 .k6
  | .bitR b r => encCB .k1 b r.code
  | .bitMHl b => encCB .k1 b .k6
  | .resR b r => encCB .k2 b r.code
  | .resMHl b => encCB .k2 b .k6
  | .setR b r => encCB .k3 b r.code
  | .setMHl b => encCB .k3 b .k6
  | .inRC r => encED .k1 r.code .k0
  | .inFC => encED .k1 .k6 .k0
  | .outCR r => encED .k1 r.code .k1
  | .outC0 => encED .k1 .k6 .k1
  | .sbcHlRr rr => [0xED#8, opXPQZ .k1 rr.code false .k2]
  | .adcHlRr rr => [0xED#8, opXPQZ .k1 rr.code true .k2]
  | .ldMNnRr rr nn => [0xED#8, opXPQZ .k1 rr.code false .k3] ++ immBytes nn
  | .ldRrMNn rr nn => [0xED#8, opXPQZ .k1 rr.code true .k3] ++ immBytes nn
  | .neg => encED .k1 .k0 .k4
  | .negAlias y => encED .k1 y .k4
  | .retn => encED .k1 .k0 .k5
  | .reti => encED .k1 .k1 .k5
  | .retnAlias y => encED .k1 y .k5
  | .im0 => encED .k1 .k0 .k6
  | .im1 => encED .k1 .k2 .k6
  | .im2 => encED .k1 .k3 .k6
  | .imAlias y => encED .k1 y .k6
  | .ldIA => encED .k1 .k0 .k7
  | .ldRA => encED .k1 .k1 .k7
  | .ldAI => encED .k1 .k2 .k7
  | .ldAR => encED .k1 .k3 .k7
  | .rrd => encED .k1 .k4 .k7
  | .rld => encED .k1 .k5 .k7
  | .nopEd77 q => [0xED#8, opXPQZ .k1 .k3 q .k7]
  | .ldi => encED .k2 .k4 .k0
  | .cpi => encED .k2 .k4 .k1
  | .ini => encED .k2 .k4 .k2
  | .outi => encED .k2 .k4 .k3
  | .ldd => encED .k2 .k5 .k0
  | .cpd => encED .k2 .k5 .k1
  | .ind => encED .k2 .k5 .k2
  | .outd => encED .k2 .k5 .k3
  | .ldir => encED .k2 .k6 .k0
  | .cpir => encED .k2 .k6 .k1
  | .inir => encED .k2 .k6 .k2
  | .otir => encED .k2 .k6 .k3
  | .lddr => encED .k2 .k7 .k0
  | .cpdr => encED .k2 .k7 .k1
  | .indr => encED .k2 .k7 .k2
  | .otdr => encED .k2 .k7 .k3
  | .nopEdX0 y z => encED .k0 y z
  | .nopEdX3 y z => encED .k3 y z
  | .nopEd80 p z => [0xED#8, 0b100#3 ++ p.bits ++ z.bits]
  | .nopEdA4 p w => [0xED#8, 0b101#3 ++ p.bits ++ 1#1 ++ w.bits]
  | .addXyRr xy pp => [xy.byte, opXPQZ .k0 pp.code true .k1]
  | .ldXyNn xy nn => [xy.byte, opXPQZ .k0 .k2 false .k1] ++ immBytes nn
  | .ldMNnXy xy nn => encXY xy .k0 .k4 .k2 ++ immBytes nn
  | .ldXyMNn xy nn => encXY xy .k0 .k5 .k2 ++ immBytes nn
  | .incXy xy => [xy.byte, opXPQZ .k0 .k2 false .k3]
  | .decXy xy => [xy.byte, opXPQZ .k0 .k2 true .k3]
  | .incMXyd xy d => encXY xy .k0 .k6 .k4 ++ [d]
  | .decMXyd xy d => encXY xy .k0 .k6 .k5 ++ [d]
  | .ldMXydN xy d n => encXY xy .k0 .k6 .k6 ++ [d, n]
  | .ldRMXyd r xy d => encXY xy .k1 r.code .k6 ++ [d]
  | .ldMXydR xy d r => encXY xy .k1 .k6 r.code ++ [d]
  | .addMXyd xy d => encXY xy .k2 .k0 .k6 ++ [d]
  | .adcMXyd xy d => encXY xy .k2 .k1 .k6 ++ [d]
  | .subMXyd xy d => encXY xy .k2 .k2 .k6 ++ [d]
  | .sbcMXyd xy d => encXY xy .k2 .k3 .k6 ++ [d]
  | .andMXyd xy d => encXY xy .k2 .k4 .k6 ++ [d]
  | .xorMXyd xy d => encXY xy .k2 .k5 .k6 ++ [d]
  | .orMXyd xy d => encXY xy .k2 .k6 .k6 ++ [d]
  | .cpMXyd xy d => encXY xy .k2 .k7 .k6 ++ [d]
  | .popXy xy => encXY xy .k3 .k4 .k1
  | .exMSpXy xy => encXY xy .k3 .k4 .k3
  | .pushXy xy => encXY xy .k3 .k4 .k5
  | .jpXy xy => encXY xy .k3 .k5 .k1
  | .ldSpXy xy => encXY xy .k3 .k7 .k1
  | .incXyh xy h => encXY xy .k0 h.code .k4
  | .decXyh xy h => encXY xy .k0 h.code .k5
  | .ldXyhN xy h n => encXY xy .k0 h.code .k6 ++ [n]
  | .ldRRXyh xy dst src => encXY xy .k1 dst.code src.code
  | .addXyh xy h => encXY xy .k2 .k0 h.code
  | .adcXyh xy h => encXY xy .k2 .k1 h.code
  | .subXyh xy h => encXY xy .k2 .k2 h.code
  | .sbcXyh xy h => encXY xy .k2 .k3 h.code
  | .andXyh xy h => encXY xy .k2 .k4 h.code
  | .xorXyh xy h => encXY xy .k2 .k5 h.code
  | .orXyh xy h => encXY xy .k2 .k6 h.code
  | .cpXyh xy h => encXY xy .k2 .k7 h.code
  | .ignoredIndexPrefix xy => [xy.byte]
  | .rlcMXyd xy d => encXYCB xy d .k0 .k0 .k6
  | .rlcMXydR xy d r => encXYCB xy d .k0 .k0 r.code
  | .rrcMXyd xy d => encXYCB xy d .k0 .k1 .k6
  | .rrcMXydR xy d r => encXYCB xy d .k0 .k1 r.code
  | .rlMXyd xy d => encXYCB xy d .k0 .k2 .k6
  | .rlMXydR xy d r => encXYCB xy d .k0 .k2 r.code
  | .rrMXyd xy d => encXYCB xy d .k0 .k3 .k6
  | .rrMXydR xy d r => encXYCB xy d .k0 .k3 r.code
  | .slaMXyd xy d => encXYCB xy d .k0 .k4 .k6
  | .slaMXydR xy d r => encXYCB xy d .k0 .k4 r.code
  | .sraMXyd xy d => encXYCB xy d .k0 .k5 .k6
  | .sraMXydR xy d r => encXYCB xy d .k0 .k5 r.code
  | .sllMXyd xy d => encXYCB xy d .k0 .k6 .k6
  | .sllMXydR xy d r => encXYCB xy d .k0 .k6 r.code
  | .srlMXyd xy d => encXYCB xy d .k0 .k7 .k6
  | .srlMXydR xy d r => encXYCB xy d .k0 .k7 r.code
  | .bitMXyd xy d b => encXYCB xy d .k1 b .k6
  | .bitMXydAlias xy d b r => encXYCB xy d .k1 b r.code
  | .resMXyd xy d b => encXYCB xy d .k2 b .k6
  | .resMXydR xy d b r => encXYCB xy d .k2 b r.code
  | .setMXyd xy d b => encXYCB xy d .k3 b .k6
  | .setMXydR xy d b r => encXYCB xy d .k3 b r.code

/-! ### The numbers of spec/opcode_table.json -/

/-- Byte `k` of an instruction whose row the table gives `nbits` bits and whose number is `w`. The table writes the FIRST
byte of an instruction as the most significant one (its word for `IN F,(C)`, bytes ED 70, is 0xED70); every byte after the
row's bits is 0. DEDUCED (log 12). -/
def tableByte (nbits w k : Nat) : Byte :=
  let n := nbits / 8
  if k < n then BitVec.ofNat 8 (w >>> (8 * (n - 1 - k))) else 0#8

/-- The instruction the decoder reads from an instruction numbered as the opcode table numbers it. -/
def decodeTableWord (nbits w : Nat) : Option Instr :=
  match decode [tableByte nbits w 0, tableByte nbits w 1, tableByte nbits w 2, tableByte nbits w 3] with
  | .instr i _ => some i
  | .truncated => none

end Sys2Proof
end

