-- ==== Sys2Proof/Config.lean ====
section
/-! DEFINITION. The implementation parameters of 00_scope.md R8 as plain data, and the free values. -/

namespace Sys2Proof.Config

/-- `ARCH` (R3, R112, D1): `i8080` is refused by the step. -/
inductive Arch where
  | z80
  | i8080
  deriving DecidableEq, Repr

/-- `UNDOC_OPS` (R107, D2): what an undocumented encoding does. -/
inductive UndocOps where
  | fault
  | execute
  deriving DecidableEq, Repr

/-- `XY_SUB` (R211, D18): where SUB and SBC A take F5 and F3 from. -/
inductive XySub where
  | result
  | operand
  deriving DecidableEq, Repr

/-- `UNDOC_FLAGS` (R8, D19): the undocumented flag bits by the rules' formulas, or free values. -/
inductive UndocFlags where
  | exact
  | any
  deriving DecidableEq, Repr

/-- `RESET_REGS` (R40, R450, D12): the registers the reset leaves unspecified, as free values or as fixed values. -/
inductive ResetRegs where
  | draw
  | fixed
  deriving DecidableEq, Repr

/-- Where one direction of the accesses to a region goes (R61): to the flat array, in a run of cells from `target` up (16-bit
addresses, so the run wraps), or to the host, whose function answers a read and takes a write. DESIGN CHOICE (log 10): the
form is the model's; routing every address to the host makes the mapper any pair of functions. -/
inductive Route where
  | array (target : Nat)
  | host
  deriving DecidableEq, Repr

/-- A range of addresses the host mapper intercepts: `size` bytes from `base`, the loads going one way and the stores one way
(R61). -/
structure Region where
  base : Nat
  size : Nat
  load : Route
  store : Route
  deriving DecidableEq, Repr

/-- A range whose reads and writes are both the host's: I/O latches, or any other pair of functions (R61). -/
def Region.device (base size : Nat) : Region := ⟨base, size, .host, .host⟩

/-- A range read from the array whose writes the host takes, and may discard: ROM (R61). -/
def Region.rom (base size : Nat) : Region := ⟨base, size, .array base, .host⟩

/-- A range that reads and writes the cells from `target` up: a mirror of them (R61). -/
def Region.mirror (base size target : Nat) : Region := ⟨base, size, .array target, .array target⟩

/-- The parameters a model takes as arguments (R8). `MAPPER` is the list `mapper` (empty: the flat array, D21; the first
region that holds an address has it); `IO`, and what the functions of `MAPPER` answer, are the state's list of host replies
(log 6). No step writes this record. -/
structure Params where
  arch : Arch
  undocOps : UndocOps
  xySub : XySub
  undocFlags : UndocFlags
  resetRegs : ResetRegs
  mapper : List Region
  frameCycles : Nat
  outCZero : Byte
  deriving DecidableEq, Repr

/-- The parameter values of the state right after reset: R8's default for each (log 4). `RESET_REGS` = draw is what `reset()`
does from there; the register values of `State.reset` itself are log 2's. -/
def Params.atReset : Params where
  arch := .z80
  undocOps := .fault
  xySub := .result
  undocFlags := .exact
  resetRegs := .draw
  mapper := []
  frameCycles := 16667
  outCZero := 0x00#8

/-- The free value `draw` of rule R14: the n-th byte drawn. It has no body, so nothing can be proved of its value. -/
opaque freeByte : Nat → BitVec 8

/-- What a memory byte nothing has written reads as. DESIGN CHOICE, unsafe (log 1): the launch contents of memory are an
input of the model (R455, U11). -/
def unlistedByte : BitVec 8 := 0x00#8

end Sys2Proof.Config
end

