-- ==== Sys2Proof/Machine/State.lean ====
section
/-! DEFINITION. The state of the machine as plain data (10_state.md R20 to R41, 20_memory.md R60), the reasons a step can
stop, and the state after reset (R40). -/

namespace Sys2Proof.Machine

/-- One set of the eight 8-bit registers A, F, B, C, D, E, H, L (R20). The pairs of R21 are views of two of them. -/
structure Regs where
  a : Byte
  f : Byte
  b : Byte
  c : Byte
  d : Byte
  e : Byte
  h : Byte
  l : Byte
  deriving DecidableEq, Repr

/-- The interrupt mode register IM (R32). -/
inductive IntMode where
  | im0
  | im1
  | im2
  deriving DecidableEq, Repr

/-- The two fault reports (R37). -/
inductive FaultRecord where
  /-- `DecodeError(pc, bytes)` (R401). -/
  | decodeError (pc : Word) (bytes : List Byte)
  /-- `Im0DataError(pc, byte)` (R422). -/
  | im0DataError (pc : Word) (byte : Byte)
  deriving DecidableEq, Repr

/-- The status a step returns (R400, R403). -/
inductive Status where
  | normal
  | halted
  | fault
  deriving DecidableEq, Repr

/-- One access of the core to memory or to a port, as the host's callbacks see it (R11, R12, R61, R62). -/
inductive HostCall where
  | memRead (a : Word) (v : Byte)
  | memWrite (a : Word) (v : Byte)
  | portRead (p : Word) (v : Byte)
  | portWrite (p : Word) (v : Byte)
  deriving DecidableEq, Repr

/-- Memory: the listed addresses with their bytes, addresses strictly rising, no byte equal to what an unlisted address
reads as (`Memory.wf` in Machine/Ops.lean). The space is the 65536 addresses of R60. -/
abbrev Memory := List Host.Cell

/-- The state. `main` and `alt` are the two register sets (R20, R22); the fields from `ix` to `fault` are those of R23 to
R41; `mem` is the byte array of R60; `params` are R8's parameters. The last four fields are the model's own (INVENTORY.md):
the status the last step returned, the bytes the host will return, the accesses of the last step, and the count of free
values drawn. -/
structure State where
  main : Regs
  alt : Regs
  ix : Word
  iy : Word
  sp : Word
  pc : Word
  i : Byte
  r : Byte
  iff1 : Bool
  iff2 : Bool
  im : IntMode
  intLine : Bool
  intData : Byte
  nmiPending : Bool
  eiInhibit : Bool
  afterPrefix : Bool
  halted : Bool
  cycles : Nat
  fault : Option FaultRecord
  mem : Memory
  params : Config.Params
  status : Status
  hostReplies : List Byte
  calls : List HostCall
  draws : Nat
  deriving DecidableEq, Repr

/-- The named reason a step stops with a fault. -/
inductive Fault where
  /-- The state holds a fault report, so it has no step (R37, R400). Raised by `cycle` on such a state, and by nothing else:
  the step that RAISES a fault is a next state with the report in it (log 9). Safe: the spec forbids the host to step here
  (R440). -/
  | coreFaulted (k : FaultRecord)
  deriving DecidableEq, Repr

/-- The named reasons the model gives no step. -/
inductive Refusal where
  /-- An instruction that has no meaning in the model yet. Raised by no arm of `exec`: every instruction is modelled.
  Safe. -/
  | notModelled (mnemonic : String)
  /-- `ARCH = I8080`: a model that only has the Z80 map refuses this mode (R3, R112). Raised by `cycle`. Safe. -/
  | archI8080
  deriving DecidableEq, Repr

/-- The registers of the main set after reset: A and F are 0xFF, the others zero (R40, `RESET_REGS` = fixed). DESIGN CHOICE
(log 2). -/
def Regs.atReset : Regs where
  a := 0xFF#8
  f := 0xFF#8
  b := 0#8
  c := 0#8
  d := 0#8
  e := 0#8
  h := 0#8
  l := 0#8

/-- The registers of the shadow set after reset: zero (R40, `RESET_REGS` = fixed). DESIGN CHOICE (log 2). -/
def Regs.zero : Regs where
  a := 0#8
  f := 0#8
  b := 0#8
  c := 0#8
  d := 0#8
  e := 0#8
  h := 0#8
  l := 0#8

/-- The machine right after reset (R40, R450). PC, I, R, the interrupt flip-flops, IM, `nmi_pending`, `ei_inhibit`,
`after_prefix`, `halted`, `cycles` and `fault` have the values of R40; SP and the registers the values of log 2; the
interrupt inputs, the parameters, memory and the model's own fields those of logs 1, 3 to 8. -/
def State.reset : State where
  main := Regs.atReset
  alt := Regs.zero
  ix := 0#16
  iy := 0#16
  sp := 0xFFFF#16
  pc := 0#16
  i := 0#8
  r := 0#8
  iff1 := false
  iff2 := false
  im := .im0
  intLine := false
  intData := 0#8
  nmiPending := false
  eiInhibit := false
  afterPrefix := false
  halted := false
  cycles := 0
  fault := none
  mem := []
  params := Config.Params.atReset
  status := .normal
  hostReplies := []
  calls := []
  draws := 0

end Sys2Proof.Machine
end

