-- ==== Sys2Proof/Machine/Flags.lean ====
section
/-! DEFINITION. The flag register as eight named bits (10_state.md R26, R27) and every flag computation of the instruction
rules: 43_alu8.md R210 to R228, 44_general_control.md R240 to R251, 45_alu16.md R260 to R263, 46_rotate_shift.md R270 to
R285, 47_bit.md R290 to R292, 42_exchange_block.md R196 and R200, 49_io.md R331 and R336, 40_load8.md R154. -/

namespace Sys2Proof.Machine

/-- The eight flags by name (R26). -/
structure FlagBits where
  s : Bool
  z : Bool
  f5 : Bool
  h : Bool
  f3 : Bool
  pv : Bool
  n : Bool
  c : Bool
  deriving DecidableEq, Repr

/-- The packed form of the flags: S at bit 7 down to C at bit 0 (R26). -/
def FlagBits.toByte (b : FlagBits) : Byte :=
  BitVec.ofBool b.s ++ BitVec.ofBool b.z ++ BitVec.ofBool b.f5 ++ BitVec.ofBool b.h ++
    BitVec.ofBool b.f3 ++ BitVec.ofBool b.pv ++ BitVec.ofBool b.n ++ BitVec.ofBool b.c

/-- The flags of a packed byte (R26). -/
def FlagBits.ofByte (v : Byte) : FlagBits where
  s := v.getLsbD 7
  z := v.getLsbD 6
  f5 := v.getLsbD 5
  h := v.getLsbD 4
  f3 := v.getLsbD 3
  pv := v.getLsbD 2
  n := v.getLsbD 1
  c := v.getLsbD 0

/-- The flags of a state. -/
def flags (s : State) : FlagBits := FlagBits.ofByte s.main.f

/-- The bits F5 and F3, the undocumented ones of every instruction but block I/O. -/
def xyMask : Byte := 0x28#8

/-- The undocumented flag bits of block I/O: all but Z (R336). -/
def blockIoMask : Byte := 0xBF#8

/-- Write F with the bits a rule gives; `mask` names those the rule marks undocumented, which are a free value under
`UNDOC_FLAGS` = any (R8, D19). -/
def putFlags (mask : Byte) (b : FlagBits) (s : State) : State :=
  match s.params.undocFlags with
  | .exact => { s with main := { s.main with f := b.toByte } }
  | .any =>
    { s with
      main := { s.main with f := (b.toByte &&& ~~~mask) ||| (Config.freeByte s.draws &&& mask) }
      draws := s.draws + 1 }

/-- Write F with the bits a rule gives, those of `mask` a free value under both values of `UNDOC_FLAGS` (R291). -/
def putFlagsFree (mask : Byte) (b : FlagBits) (s : State) : State :=
  { s with
    main := { s.main with f := (b.toByte &&& ~~~mask) ||| (Config.freeByte s.draws &&& mask) }
    draws := s.draws + 1 }

/-- Outside the range of an 8-bit signed integer (R210, R211). -/
def outside8 (v : Int) : Bool := decide (v < -128) || decide (v > 127)

/-- Outside the range of a 16-bit signed integer (R262, R263). -/
def outside16 (v : Int) : Bool := decide (v < -32768) || decide (v > 32767)

/-! ### 8-bit arithmetic and logic -/

/-- `add8(a, s, c)` (R210). -/
def add8 (a v : Byte) (c : Bool) : Byte × FlagBits :=
  let sum := a.toNat + v.toNat + c.toNat
  let res := BitVec.ofNat 8 sum
  (res,
    { s := res.getLsbD 7
      z := res == 0#8
      f5 := res.getLsbD 5
      h := decide (loNibble a + loNibble v + c.toNat > 15)
      f3 := res.getLsbD 3
      pv := outside8 (a.toInt + v.toInt + c.toNat)
      n := false
      c := decide (sum > 255) })

/-- `sub8(a, s, c)` (R211), with F5 and F3 of the result or of the subtrahend as `xy` says. -/
def sub8 (xy : Config.XySub) (a v : Byte) (c : Bool) : Byte × FlagBits :=
  let res := BitVec.ofInt 8 ((a.toNat : Int) - v.toNat - c.toNat)
  let from53 := match xy with
    | .result => res
    | .operand => v
  (res,
    { s := res.getLsbD 7
      z := res == 0#8
      f5 := from53.getLsbD 5
      h := decide (loNibble a < loNibble v + c.toNat)
      f3 := from53.getLsbD 3
      pv := outside8 (a.toInt - v.toInt - c.toNat)
      n := true
      c := decide (a.toNat < v.toNat + c.toNat) })

/-- `logic(res, h)` (R212). -/
def logicFlags (res : Byte) (h : Bool) : FlagBits where
  s := res.getLsbD 7
  z := res == 0#8
  f5 := res.getLsbD 5
  h := h
  f3 := res.getLsbD 3
  pv := parity res
  n := false
  c := false

/-- The 8-bit increment, which keeps C (R222). -/
def inc8 (v : Byte) (old : FlagBits) : Byte × FlagBits :=
  let res := v + 1#8
  (res,
    { s := res.getLsbD 7
      z := res == 0#8
      f5 := res.getLsbD 5
      h := loNibble v == 15
      f3 := res.getLsbD 3
      pv := v == 0x7F#8
      n := false
      c := old.c })

/-- The 8-bit decrement, which keeps C (R225). -/
def dec8 (v : Byte) (old : FlagBits) : Byte × FlagBits :=
  let res := v - 1#8
  (res,
    { s := res.getLsbD 7
      z := res == 0#8
      f5 := res.getLsbD 5
      h := loNibble v == 0
      f3 := res.getLsbD 3
      pv := v == 0x80#8
      n := true
      c := old.c })

/-! ### General-purpose arithmetic -/

/-- Does DAA correct the low digit? (R240) -/
def daaLow (a : Byte) (old : FlagBits) : Bool := old.h || decide (loNibble a > 9)

/-- Does DAA correct the high digit? It is also the carry DAA leaves. (R240) -/
def daaHigh (a : Byte) (old : FlagBits) : Bool := old.c || decide (a.toNat > 0x99)

/-- The correction `t` of DAA (R240). -/
def daaCorrection (a : Byte) (old : FlagBits) : Byte :=
  (if daaLow a old then 0x06#8 else 0#8) ||| (if daaHigh a old then 0x60#8 else 0#8)

/-- DAA (R240). -/
def daa (a : Byte) (old : FlagBits) : Byte × FlagBits :=
  let t := daaCorrection a old
  let res := if old.n then a - t else a + t
  let h := if old.n then old.h && decide (loNibble a < 6) else decide (loNibble a > 9)
  (res,
    { s := res.getLsbD 7
      z := res == 0#8
      f5 := res.getLsbD 5
      h := h
      f3 := res.getLsbD 3
      pv := parity res
      n := old.n
      c := daaHigh a old })

/-- NEG (R251): `sub8(0, v, 0)` with F5 and F3 of the result in both `XY_SUB` modes. -/
def neg8 (v : Byte) : Byte × FlagBits :=
  let res := BitVec.ofInt 8 (0 - (v.toNat : Int))
  (res,
    { s := res.getLsbD 7
      z := res == 0#8
      f5 := res.getLsbD 5
      h := loNibble v != 0
      f3 := res.getLsbD 3
      pv := v == 0x80#8
      n := true
      c := v != 0#8 })

/-- CPL's flags, from the new A (R241). -/
def cplFlags (res : Byte) (old : FlagBits) : FlagBits :=
  { old with f5 := res.getLsbD 5, h := true, f3 := res.getLsbD 3, n := true }

/-- CCF's flags (R242). -/
def ccfFlags (a : Byte) (old : FlagBits) : FlagBits :=
  { old with f5 := a.getLsbD 5, h := old.c, f3 := a.getLsbD 3, n := false, c := !old.c }

/-- SCF's flags (R243). -/
def scfFlags (a : Byte) (old : FlagBits) : FlagBits :=
  { old with f5 := a.getLsbD 5, h := false, f3 := a.getLsbD 3, n := false, c := true }

/-! ### 16-bit arithmetic -/

/-- The low twelve bits of a word as a number: bit 11's carry is the 16-bit half-carry (R17, R260). -/
def low12 (w : Word) : Nat := w.toNat % 4096

/-- `ADD HL,rr` (R260): S, Z and PV are kept. -/
def add16 (a v : Word) (old : FlagBits) : Word × FlagBits :=
  let res := BitVec.ofNat 16 (a.toNat + v.toNat)
  (res,
    { old with
      f5 := res.getLsbD 13
      h := decide (low12 a + low12 v > 0xFFF)
      f3 := res.getLsbD 11
      n := false
      c := decide (a.toNat + v.toNat > 0xFFFF) })

/-- `ADC HL,rr` (R262). -/
def adc16 (a v : Word) (c : Bool) : Word × FlagBits :=
  let sum := a.toNat + v.toNat + c.toNat
  let res := BitVec.ofNat 16 sum
  (res,
    { s := res.getLsbD 15
      z := res == 0#16
      f5 := res.getLsbD 13
      h := decide (low12 a + low12 v + c.toNat > 0xFFF)
      f3 := res.getLsbD 11
      pv := outside16 (a.toInt + v.toInt + c.toNat)
      n := false
      c := decide (sum > 0xFFFF) })

/-- `SBC HL,rr` (R263). -/
def sbc16 (a v : Word) (c : Bool) : Word × FlagBits :=
  let res := BitVec.ofInt 16 ((a.toNat : Int) - v.toNat - c.toNat)
  (res,
    { s := res.getLsbD 15
      z := res == 0#16
      f5 := res.getLsbD 13
      h := decide (low12 a < low12 v + c.toNat)
      f3 := res.getLsbD 11
      pv := outside16 (a.toInt - v.toInt - c.toNat)
      n := true
      c := decide (a.toNat < v.toNat + c.toNat) })

/-! ### Rotates and shifts: the result and the carry out, from a value and the carry in -/

/-- `res <- v[6:0] ++ b`. -/
def shiftLeftIn (v : Byte) (b : Bool) : Byte := v.extractLsb' 0 7 ++ BitVec.ofBool b

/-- `res <- b ++ v[7:1]`. -/
def shiftRightIn (v : Byte) (b : Bool) : Byte := BitVec.ofBool b ++ v.extractLsb' 1 7

/-- RLC and RLCA (R270, R275). -/
def rlc8 (v : Byte) (_carry : Bool) : Byte × Bool := (shiftLeftIn v (v.getLsbD 7), v.getLsbD 7)

/-- RRC and RRCA (R272, R276). -/
def rrc8 (v : Byte) (_carry : Bool) : Byte × Bool := (shiftRightIn v (v.getLsbD 0), v.getLsbD 0)

/-- RL and RLA (R271, R277). -/
def rl8 (v : Byte) (carry : Bool) : Byte × Bool := (shiftLeftIn v carry, v.getLsbD 7)

/-- RR and RRA (R273, R278). -/
def rr8 (v : Byte) (carry : Bool) : Byte × Bool := (shiftRightIn v carry, v.getLsbD 0)

/-- SLA (R279). -/
def sla8 (v : Byte) (_carry : Bool) : Byte × Bool := (shiftLeftIn v false, v.getLsbD 7)

/-- SRA (R280). -/
def sra8 (v : Byte) (_carry : Bool) : Byte × Bool := (shiftRightIn v (v.getLsbD 7), v.getLsbD 0)

/-- SLL (R281). -/
def sll8 (v : Byte) (_carry : Bool) : Byte × Bool := (shiftLeftIn v true, v.getLsbD 7)

/-- SRL (R282). -/
def srl8 (v : Byte) (_carry : Bool) : Byte × Bool := (shiftRightIn v false, v.getLsbD 0)

/-- The flags of the accumulator rotates: S, Z and PV are kept (R270). -/
def accRotFlags (res : Byte) (c : Bool) (old : FlagBits) : FlagBits :=
  { old with f5 := res.getLsbD 5, h := false, f3 := res.getLsbD 3, n := false, c := c }

/-- The flags of the CB rotates and shifts (R283). -/
def rotFlags (res : Byte) (c : Bool) : FlagBits where
  s := res.getLsbD 7
  z := res == 0#8
  f5 := res.getLsbD 5
  h := false
  f3 := res.getLsbD 3
  pv := parity res
  n := false
  c := c

/-- The flags of RLD and RRD from the new A (R284), and of `IN r,(C)` from the byte read (R331): C is kept. -/
def digitFlags (res : Byte) (old : FlagBits) : FlagBits where
  s := res.getLsbD 7
  z := res == 0#8
  f5 := res.getLsbD 5
  h := false
  f3 := res.getLsbD 3
  pv := parity res
  n := false
  c := old.c

/-- The flags of `LD A,I` and `LD A,R`: PV is IFF2, C is kept (R154, R155). -/
def specialLoadFlags (res : Byte) (iff2 : Bool) (old : FlagBits) : FlagBits where
  s := res.getLsbD 7
  z := res == 0#8
  f5 := res.getLsbD 5
  h := false
  f3 := res.getLsbD 3
  pv := iff2
  n := false
  c := old.c

/-- The flags of BIT: bit `k` of `v` is tested, F5 and F3 come from `xy`, C is kept (R290, R292). -/
def bitFlags (k : Nat) (v xy : Byte) (old : FlagBits) : FlagBits where
  s := k == 7 && v.getLsbD k
  z := !v.getLsbD k
  f5 := xy.getLsbD 5
  h := true
  f3 := xy.getLsbD 3
  pv := !v.getLsbD k
  n := false
  c := old.c

/-! ### Block instructions -/

/-- The flags of a block transfer of `v`, `bc` the decremented count (R196). -/
def blockMoveFlags (v a : Byte) (bc : Word) (old : FlagBits) : FlagBits :=
  let t := v + a
  { old with f5 := t.getLsbD 1, h := false, f3 := t.getLsbD 3, pv := bc != 0#16, n := false }

/-- The flags of a block search against `v`, `bc` the decremented count (R200). -/
def blockSearchFlags (v a : Byte) (bc : Word) (old : FlagBits) : FlagBits :=
  let res := a - v
  let h := decide (loNibble a < loNibble v)
  let t := res - (if h then 1#8 else 0#8)
  { s := res.getLsbD 7
    z := res == 0#8
    f5 := t.getLsbD 1
    h := h
    f3 := t.getLsbD 3
    pv := bc != 0#16
    n := true
    c := old.c }

/-- The flags of block I/O for the transferred byte `v`, the value `k` of the rule and the decremented `b` (R336). -/
def blockIoFlags (v : Byte) (k : Nat) (b : Byte) : FlagBits where
  s := b.getLsbD 7
  z := b == 0#8
  f5 := b.getLsbD 5
  h := decide (k > 255)
  f3 := b.getLsbD 3
  pv := parity (BitVec.ofNat 8 (k % 8) ^^^ b)
  n := v.getLsbD 7
  c := decide (k > 255)

end Sys2Proof.Machine
end

