-- ==== Sys2Proof/Machine/Ops.lean ====
section
/-! DEFINITION. The named operations every meaning is built from: memory (00_scope.md R11, 20_memory.md R60 to R69), ports
(R12, R62), the stack (R13), the refresh counter (10_state.md R30), the end of an instruction (R14, R25, R470), and the
interrupt sequencer: taking an interrupt (60_exceptions.md R421 to R425), returning from one (R426) and the two faults
(R401, R422). -/

namespace Sys2Proof.Machine

/-- What a step, or an instruction's meaning, answers. -/
abbrev Result := Host.Outcome State Fault Refusal

/-! ### The byte array -/

/-- The byte at an address. -/
def Memory.read : Memory → Nat → Byte
  | [], _ => Config.unlistedByte
  | (k, v) :: rest, a => if k = a then v else Memory.read rest a

/-- The array with nothing listed at an address. -/
def Memory.erase : Memory → Nat → Memory
  | [], _ => []
  | (k, v) :: rest, a => if k = a then Memory.erase rest a else (k, v) :: Memory.erase rest a

/-- The array with one more entry, before the first higher address. -/
def Memory.insert : Memory → Nat → Byte → Memory
  | [], a, v => [(a, v)]
  | (k, w) :: rest, a, v => if a < k then (a, v) :: (k, w) :: rest else (k, w) :: Memory.insert rest a v

/-- The array with a byte written. The value an unlisted address reads as is written by listing nothing. -/
def Memory.write (m : Memory) (a : Nat) (v : Byte) : Memory :=
  if v = Config.unlistedByte then m.erase a else (m.erase a).insert a v

/-- Addresses strictly rising from `lo`, below 65536, and no byte equal to what an unlisted address reads as. -/
def Memory.wfFrom : Nat → Memory → Bool
  | _, [] => true
  | lo, (k, v) :: rest =>
    decide (lo ≤ k) && decide (k < 65536) && (v != Config.unlistedByte) && Memory.wfFrom (k + 1) rest

/-- The canonical form of memory. -/
def Memory.wf (m : Memory) : Bool := Memory.wfFrom 0 m

/-! ### The host's mapper (R61) -/

/-- The region that intercepts an address: the first of the list that holds it. -/
def regionAt : List Config.Region → Word → Option Config.Region
  | [], _ => none
  | g :: rest, a => if g.base ≤ a.toNat ∧ a.toNat < g.base + g.size then some g else regionAt rest a

/-- The cell of the flat array a route leads to for the address `a` of a region from `base` up; none when it leads to the
host. -/
def Route.cell (r : Config.Route) (base : Nat) (a : Word) : Option Word :=
  match r with
  | .array target => some (BitVec.ofNat 16 (target + (a.toNat - base)))
  | .host => none

/-- The cell a read of an address takes its byte from; none where the host answers it. An address no region intercepts is
its own cell. -/
def loadCell (mapper : List Config.Region) (a : Word) : Option Word :=
  match regionAt mapper a with
  | none => some a
  | some g => Route.cell g.load g.base a

/-- The cell a write to an address changes; none where the host takes it. -/
def storeCell (mapper : List Config.Region) (a : Word) : Option Word :=
  match regionAt mapper a with
  | none => some a
  | some g => Route.cell g.store g.base a

/-- The byte a cell of the flat array holds: a pure view, no access. -/
def peek (s : State) (c : Word) : Byte := s.mem.read c.toNat

/-- The byte a read of an address takes from the flat array: a pure view, no access (0 where the host answers it). -/
def arrayByte (s : State) (a : Word) : Byte :=
  match loadCell s.params.mapper a with
  | some c => peek s c
  | none => 0#8

/-- The byte the host hands over: the next of its replies, or a free value when it has given none (R8 `IO`, D28; log 6). -/
def hostByte (s : State) : Byte × State :=
  match s.hostReplies with
  | v :: rest => (v, { s with hostReplies := rest })
  | [] => (Config.freeByte s.draws, { s with draws := s.draws + 1 })

/-- Record an access (R67; log 7). -/
def logCall (c : HostCall) (s : State) : State := { s with calls := s.calls ++ [c] }

/-- `MemRead(a, 1)` (R11, R61): the byte and the state after the access. -/
def memRead (s : State) (a : Word) : Byte × State :=
  match loadCell s.params.mapper a with
  | some c => (peek s c, logCall (.memRead a (peek s c)) s)
  | none => ((hostByte s).1, logCall (.memRead a (hostByte s).1) (hostByte s).2)

/-- `MemWrite(a, 1, v)` (R11, R61). A write the host takes changes no cell; the record of accesses shows it. -/
def memWrite (s : State) (a : Word) (v : Byte) : State :=
  match storeCell s.params.mapper a with
  | some c => logCall (.memWrite a v) { s with mem := s.mem.write c.toNat v }
  | none => logCall (.memWrite a v) s

/-- `MemRead(a, 2)`: the low byte at `a`, then the high byte at `a + 1` (R11, R63, R65). -/
def memRead16 (s : State) (a : Word) : Word × State :=
  let lo := memRead s a
  let hi := memRead lo.2 (a + 1#16)
  (joinBytes hi.1 lo.1, hi.2)

/-- `MemWrite(a, 2, v)`: the low byte at `a`, then the high byte at `a + 1` (R11, R63, R65). -/
def memWrite16 (s : State) (a : Word) (v : Word) : State :=
  memWrite (memWrite s a (loByte v)) (a + 1#16) (hiByte v)

/-- `Push16(v)`: the high byte at SP - 1, then the low byte at SP - 2, then SP decreases by 2 (R13). -/
def push16 (v : Word) (s : State) : State :=
  let s1 := memWrite s (s.sp - 1#16) (hiByte v)
  let s2 := memWrite s1 (s.sp - 2#16) (loByte v)
  { s2 with sp := s.sp - 2#16 }

/-- `Pop16()`: the low byte from SP, the high byte from SP + 1, then SP increases by 2 (R13). -/
def pop16 (s : State) : Word × State :=
  let lo := memRead s s.sp
  let hi := memRead lo.2 (s.sp + 1#16)
  (joinBytes hi.1 lo.1, { hi.2 with sp := s.sp + 2#16 })

/-- `IoRead(port)` (R12, R62). -/
def ioRead (s : State) (port : Word) : Byte × State :=
  ((hostByte s).1, logCall (.portRead port (hostByte s).1) (hostByte s).2)

/-- `IoWrite(port, v)` (R12, R62). -/
def ioWrite (s : State) (port : Word) (v : Byte) : State := logCall (.portWrite port v) s

/-! ### The refresh counter and the end of an instruction -/

/-- R after `k` M1 fetches: the low seven bits count, bit 7 stays (R30). -/
def refresh (k : Nat) (r : Byte) : Byte := r.extractLsb' 7 1 ++ (r.extractLsb' 0 7 + BitVec.ofNat 7 k)

/-- Count `k` M1 fetches (R30, R410 step 5). -/
def m1 (k : Nat) (s : State) : State := { s with r := refresh k s.r }

/-- The end of an instruction that does not write `pc`: PC moves past its `len` bytes, `t` T-states are charged (R14, R25,
R470). -/
def retire (len t : Nat) (s : State) : Result :=
  .next { s with pc := s.pc + BitVec.ofNat 16 len, cycles := s.cycles + t, status := .normal }

/-- The end of an instruction that writes `pc` (R14, R25, R470). -/
def jumpTo (target : Word) (t : Nat) (s : State) : Result :=
  .next { s with pc := target, cycles := s.cycles + t, status := .normal }

/-- The end of one iteration of a repeating block instruction: PC stays and 21 T-states are charged when it repeats, else PC
moves past its 2 bytes and 16 are charged (R195). -/
def repeatOrRetire (again : Bool) (s : State) : Result :=
  if again then jumpTo s.pc 21 s else retire 2 16 s

/-! ### Interrupts and faults -/

/-- Taking an interrupt: push PC, go to the address, charge `t` T-states (R421 to R425). The state given has the effects
that come before the push. -/
def takeInterrupt (target : Word) (t : Nat) (s : State) : State :=
  { push16 s.pc s with pc := target, cycles := s.cycles + t, status := .normal }

/-- The effects of an NMI acceptance before its push (R421). -/
def nmiEffects (s : State) : State :=
  { m1 1 s with nmiPending := false, halted := false, eiInhibit := false, iff1 := false }

/-- NMI acceptance (R421). -/
def acceptNmi (s : State) : State := takeInterrupt 0x0066#16 11 (nmiEffects s)

/-- The common effects of every maskable acceptance before its push (R425). -/
def maskableEffects (s : State) : State :=
  { m1 1 s with iff1 := false, iff2 := false, halted := false, eiInhibit := false }

/-- Has a byte the form `11ttt111` of an RST opcode? (R422) -/
def isRstOpcode (v : Byte) : Bool := v &&& 0xC7#8 == 0xC7#8

/-- `fault <- Im0DataError(PC, int_data)`, nothing else, and the status `Fault` (R422). -/
def raiseIm0DataError (s : State) : State :=
  { s with fault := some (.im0DataError s.pc s.intData), status := .fault }

/-- Maskable acceptance in mode 0 (R422). -/
def acceptMode0 (s : State) : State :=
  if isRstOpcode s.intData then takeInterrupt (zext16 (s.intData &&& 0x38#8)) 13 (maskableEffects s)
  else raiseIm0DataError s

/-- Maskable acceptance in mode 1 (R423). -/
def acceptMode1 (s : State) : State := takeInterrupt 0x0038#16 13 (maskableEffects s)

/-- The mode-2 vector address `I ++ int_data` (R424). -/
def mode2Vector (s : State) : Word := joinBytes s.i s.intData

/-- Maskable acceptance in mode 2: the push first, then the two reads of the vector (R424). -/
def acceptMode2 (s : State) : State :=
  let s1 := push16 s.pc (maskableEffects s)
  let v := memRead16 s1 (mode2Vector s)
  { v.2 with pc := v.1, cycles := s.cycles + 19, status := .normal }

/-- Maskable acceptance by the interrupt mode (R422 to R425). -/
def acceptMaskable (s : State) : State :=
  match s.im with
  | .im0 => acceptMode0 s
  | .im1 => acceptMode1 s
  | .im2 => acceptMode2 s

/-- Return from an interrupt handler, for RETN and RETI: pop PC, IFF1 takes IFF2 (R317, R318, R426). -/
def returnFromInterrupt (s : State) : Result :=
  let p := pop16 s
  jumpTo p.1 14 { p.2 with iff1 := s.iff2 }

/-- `fault <- DecodeError(PC, bytes)`, nothing else, and the status `Fault` (R401). -/
def raiseDecodeError (bytes : List Byte) (s : State) : State :=
  { s with fault := some (.decodeError s.pc bytes), status := .fault }

/-- The idle step while halted (R412). -/
def idleStep (s : State) : State :=
  { m1 1 s with cycles := s.cycles + 4, status := .halted }

end Sys2Proof.Machine
end

