-- ==== Sys2Proof/Machine/Operands.lean ====
section
/-! DEFINITION. Every operand form: registers, pairs and halves (10_state.md R20 to R23), indexed addresses (30_encoding.md
R93), conditions (48_control_flow.md R300), and the operand columns of 43_alu8.md R213 and 46_rotate_shift.md R274 as shared
operations over an instruction's computation. -/

namespace Sys2Proof.Machine

/-! ### Registers -/

/-- `R8[k]` read (R94). -/
def Regs.get (g : Regs) : Reg8 → Byte
  | .b => g.b
  | .c => g.c
  | .d => g.d
  | .e => g.e
  | .h => g.h
  | .l => g.l
  | .a => g.a

/-- `R8[k]` written (R94). -/
def Regs.set (g : Regs) (r : Reg8) (v : Byte) : Regs :=
  match r with
  | .b => { g with b := v }
  | .c => { g with c := v }
  | .d => { g with d := v }
  | .e => { g with e := v }
  | .h => { g with h := v }
  | .l => { g with l := v }
  | .a => { g with a := v }

/-- BC of a register set (R21). -/
def Regs.bc (g : Regs) : Word := joinBytes g.b g.c

/-- DE of a register set (R21). -/
def Regs.de (g : Regs) : Word := joinBytes g.d g.e

/-- HL of a register set (R21). -/
def Regs.hl (g : Regs) : Word := joinBytes g.h g.l

/-- AF of a register set (R21). -/
def Regs.af (g : Regs) : Word := joinBytes g.a g.f

/-- BC written: both halves (R10, R21). -/
def Regs.setBc (g : Regs) (w : Word) : Regs := { g with b := hiByte w, c := loByte w }

/-- DE written: both halves (R10, R21). -/
def Regs.setDe (g : Regs) (w : Word) : Regs := { g with d := hiByte w, e := loByte w }

/-- HL written: both halves (R10, R21). -/
def Regs.setHl (g : Regs) (w : Word) : Regs := { g with h := hiByte w, l := loByte w }

/-- AF written: both halves (R10, R21). -/
def Regs.setAf (g : Regs) (w : Word) : Regs := { g with a := hiByte w, f := loByte w }

/-- Write the main register set. -/
def setMain (g : Regs) (s : State) : State := { s with main := g }

/-- Read an 8-bit register. -/
def getReg (r : Reg8) (s : State) : Byte := s.main.get r

/-- Write an 8-bit register. -/
def setReg (r : Reg8) (v : Byte) (s : State) : State := { s with main := s.main.set r v }

/-- Read a pair of `RP` (R95). -/
def getPair (rr : RegPair) (s : State) : Word :=
  match rr with
  | .bc => s.main.bc
  | .de => s.main.de
  | .hl => s.main.hl
  | .sp => s.sp

/-- Write a pair of `RP` (R95). -/
def setPair (rr : RegPair) (w : Word) (s : State) : State :=
  match rr with
  | .bc => { s with main := s.main.setBc w }
  | .de => { s with main := s.main.setDe w }
  | .hl => { s with main := s.main.setHl w }
  | .sp => { s with sp := w }

/-- Read a pair of `RP2` (R96). -/
def getStackPair (qq : StackPair) (s : State) : Word :=
  match qq with
  | .bc => s.main.bc
  | .de => s.main.de
  | .hl => s.main.hl
  | .af => s.main.af

/-- Write a pair of `RP2` (R96). -/
def setStackPair (qq : StackPair) (w : Word) (s : State) : State :=
  match qq with
  | .bc => { s with main := s.main.setBc w }
  | .de => { s with main := s.main.setDe w }
  | .hl => { s with main := s.main.setHl w }
  | .af => { s with main := s.main.setAf w }

/-- Read an index register (R23). -/
def getXy (xy : IndexReg) (s : State) : Word :=
  match xy with
  | .ix => s.ix
  | .iy => s.iy

/-- Write an index register (R23). -/
def setXy (xy : IndexReg) (w : Word) (s : State) : State :=
  match xy with
  | .ix => { s with ix := w }
  | .iy => { s with iy := w }

/-- XYH or XYL of an index register's value (R21). -/
def halfOf (h : Half) (w : Word) : Byte :=
  match h with
  | .high => hiByte w
  | .low => loByte w

/-- An index register's value with one half replaced (R21, R228). -/
def withHalf (h : Half) (v : Byte) (w : Word) : Word :=
  match h with
  | .high => joinBytes v (loByte w)
  | .low => joinBytes (hiByte w) v

/-- Read a half of an index register. -/
def getHalf (xy : IndexReg) (h : Half) (s : State) : Byte := halfOf h (getXy xy s)

/-- Write a half of an index register. -/
def setHalf (xy : IndexReg) (h : Half) (v : Byte) (s : State) : State := setXy xy (withHalf h v (getXy xy s)) s

/-- Read `R8[k]` with codes 4 and 5 as the index halves (R158). -/
def getHalfReg (xy : IndexReg) (r : HalfReg) (s : State) : Byte :=
  match r with
  | .b => s.main.b
  | .c => s.main.c
  | .d => s.main.d
  | .e => s.main.e
  | .xyh => getHalf xy .high s
  | .xyl => getHalf xy .low s
  | .a => s.main.a

/-- Write `R8[k]` with codes 4 and 5 as the index halves (R158). -/
def setHalfReg (xy : IndexReg) (r : HalfReg) (v : Byte) (s : State) : State :=
  match r with
  | .b => setReg .b v s
  | .c => setReg .c v s
  | .d => setReg .d v s
  | .e => setReg .e v s
  | .xyh => setHalf xy .high v s
  | .xyl => setHalf xy .low v s
  | .a => setReg .a v s

/-- Read `RP[p]` under an index prefix (R95, R261). -/
def getIndexPair (xy : IndexReg) (pp : IndexPair) (s : State) : Word :=
  match pp with
  | .bc => s.main.bc
  | .de => s.main.de
  | .xy => getXy xy s
  | .sp => s.sp

/-- The address `XY + sext_16(d)` (R93). -/
def xyAddr (xy : IndexReg) (d : Byte) (s : State) : Word := getXy xy s + sext16 d

/-- The relative target `pc + 2 + sext_16(e)` (R93, R303). -/
def relTarget (e : Byte) (s : State) : Word := s.pc + 2#16 + sext16 e

/-- `cond(k)` (R300). -/
def condHolds (cc : Cond) (s : State) : Bool :=
  match cc with
  | .nz => !(flags s).z
  | .z => (flags s).z
  | .nc => !(flags s).c
  | .c => (flags s).c
  | .po => !(flags s).pv
  | .pe => (flags s).pv
  | .p => !(flags s).s
  | .m => (flags s).s

/-- `CC[0..3]`, for `JR cc,e` (R97, R304). -/
def jrCondHolds (cc : JrCond) (s : State) : Bool :=
  match cc with
  | .nz => !(flags s).z
  | .z => (flags s).z
  | .nc => !(flags s).c
  | .c => (flags s).c

/-! ### The eight 8-bit operations on A (R214 to R221) -/

/-- `ADD A,v` (R214). -/
def aluAdd (v : Byte) (s : State) : State :=
  let r := add8 s.main.a v false
  putFlags xyMask r.2 (setReg .a r.1 s)

/-- `ADC A,v` (R215). -/
def aluAdc (v : Byte) (s : State) : State :=
  let r := add8 s.main.a v (flags s).c
  putFlags xyMask r.2 (setReg .a r.1 s)

/-- `SUB v` (R216). -/
def aluSub (v : Byte) (s : State) : State :=
  let r := sub8 s.params.xySub s.main.a v false
  putFlags xyMask r.2 (setReg .a r.1 s)

/-- `SBC A,v` (R217). -/
def aluSbc (v : Byte) (s : State) : State :=
  let r := sub8 s.params.xySub s.main.a v (flags s).c
  putFlags xyMask r.2 (setReg .a r.1 s)

/-- `AND v` (R218). -/
def aluAnd (v : Byte) (s : State) : State :=
  let res := s.main.a &&& v
  putFlags xyMask (logicFlags res true) (setReg .a res s)

/-- `XOR v` (R219). -/
def aluXor (v : Byte) (s : State) : State :=
  let res := s.main.a ^^^ v
  putFlags xyMask (logicFlags res false) (setReg .a res s)

/-- `OR v` (R220). -/
def aluOr (v : Byte) (s : State) : State :=
  let res := s.main.a ||| v
  putFlags xyMask (logicFlags res false) (setReg .a res s)

/-- `CP v` (R221): A is not written, F5 and F3 come from the operand in both `XY_SUB` modes. -/
def aluCp (v : Byte) (s : State) : State :=
  putFlags xyMask (sub8 .operand s.main.a v false).2 s

/-! ### The operand column of R213 -/

/-- Form `r`: 1 byte, 4 T-states. -/
def aluReg (op : Byte → State → State) (r : Reg8) (s : State) : Result :=
  let s1 := m1 1 s
  retire 1 4 (op (getReg r s1) s1)

/-- Form `(HL)`: 1 byte, 7 T-states. -/
def aluMHl (op : Byte → State → State) (s : State) : Result :=
  let p := memRead (m1 1 s) s.main.hl
  retire 1 7 (op p.1 p.2)

/-- Form `n`: 2 bytes, 7 T-states. -/
def aluImm (op : Byte → State → State) (n : Byte) (s : State) : Result :=
  retire 2 7 (op n (m1 1 s))

/-- Form `(XY+d)`: 3 bytes, 19 T-states. -/
def aluMXyd (op : Byte → State → State) (xy : IndexReg) (d : Byte) (s : State) : Result :=
  let p := memRead (m1 2 s) (xyAddr xy d s)
  retire 3 19 (op p.1 p.2)

/-- Form `XYH`/`XYL`: 2 bytes, 8 T-states. -/
def aluHalf (op : Byte → State → State) (xy : IndexReg) (h : Half) (s : State) : Result :=
  let s1 := m1 2 s
  retire 2 8 (op (getHalf xy h s1) s1)

/-! ### Increment and decrement (R222 to R228) -/

/-- Form `r`: 1 byte, 4 T-states. -/
def stepReg (f : Byte → FlagBits → Byte × FlagBits) (r : Reg8) (s : State) : Result :=
  let s1 := m1 1 s
  let q := f (getReg r s1) (flags s1)
  retire 1 4 (putFlags xyMask q.2 (setReg r q.1 s1))

/-- A memory form: read, compute, write back, then the flags. -/
def stepMem (f : Byte → FlagBits → Byte × FlagBits) (a : Word) (s : State) : State :=
  let p := memRead s a
  let q := f p.1 (flags p.2)
  putFlags xyMask q.2 (memWrite p.2 a q.1)

/-- Form `XYH`/`XYL`: 2 bytes, 8 T-states. -/
def stepHalf (f : Byte → FlagBits → Byte × FlagBits) (xy : IndexReg) (h : Half) (s : State) : Result :=
  let s1 := m1 2 s
  let q := f (getHalf xy h s1) (flags s1)
  retire 2 8 (putFlags xyMask q.2 (setHalf xy h q.1 s1))

/-! ### The operand column of R274, rotates and shifts -/

/-- A rotate or shift of an accumulator (R270 to R273): 1 byte, 4 T-states. -/
def rotAcc (f : Byte → Bool → Byte × Bool) (s : State) : Result :=
  let s1 := m1 1 s
  let q := f s1.main.a (flags s1).c
  retire 1 4 (putFlags xyMask (accRotFlags q.1 q.2 (flags s1)) (setReg .a q.1 s1))

/-- Form `r`: 2 bytes, 8 T-states. -/
def rotReg (f : Byte → Bool → Byte × Bool) (r : Reg8) (s : State) : Result :=
  let s1 := m1 2 s
  let q := f (getReg r s1) (flags s1).c
  retire 2 8 (putFlags xyMask (rotFlags q.1 q.2) (setReg r q.1 s1))

/-- A memory form: read, compute, write back, then the flags. Answers the result and the state. -/
def rotMem (f : Byte → Bool → Byte × Bool) (a : Word) (s : State) : Byte × State :=
  let p := memRead s a
  let q := f p.1 (flags p.2).c
  (q.1, putFlags xyMask (rotFlags q.1 q.2) (memWrite p.2 a q.1))

/-- Form `(HL)`: 2 bytes, 15 T-states. -/
def rotMHl (f : Byte → Bool → Byte × Bool) (s : State) : Result :=
  retire 2 15 (rotMem f s.main.hl (m1 2 s)).2

/-- Form `(XY+d)`: 4 bytes, 23 T-states. -/
def rotMXyd (f : Byte → Bool → Byte × Bool) (xy : IndexReg) (d : Byte) (s : State) : Result :=
  retire 4 23 (rotMem f (xyAddr xy d s) (m1 2 s)).2

/-- Form `(XY+d),r`: the result is also copied to the real register `r`; 4 bytes, 23 T-states. -/
def rotMXydR (f : Byte → Bool → Byte × Bool) (xy : IndexReg) (d : Byte) (r : Reg8) (s : State) : Result :=
  let q := rotMem f (xyAddr xy d s) (m1 2 s)
  retire 4 23 (setReg r q.1 q.2)

/-! ### The operand column of R274, SET and RES -/

/-- A memory form of SET or RES: read, change one bit, write back. Answers the result and the state. -/
def bitMem (f : Byte → Byte) (a : Word) (s : State) : Byte × State :=
  let p := memRead s a
  (f p.1, memWrite p.2 a (f p.1))

/-- Form `r`: 2 bytes, 8 T-states. -/
def bitOpReg (f : Byte → Byte) (r : Reg8) (s : State) : Result :=
  let s1 := m1 2 s
  retire 2 8 (setReg r (f (getReg r s1)) s1)

/-- Form `(HL)`: 2 bytes, 15 T-states. -/
def bitOpMHl (f : Byte → Byte) (s : State) : Result :=
  retire 2 15 (bitMem f s.main.hl (m1 2 s)).2

/-- Form `(XY+d)`: 4 bytes, 23 T-states. -/
def bitOpMXyd (f : Byte → Byte) (xy : IndexReg) (d : Byte) (s : State) : Result :=
  retire 4 23 (bitMem f (xyAddr xy d s) (m1 2 s)).2

/-- Form `(XY+d),r`: the result is also copied to the real register `r`; 4 bytes, 23 T-states. -/
def bitOpMXydR (f : Byte → Byte) (xy : IndexReg) (d : Byte) (r : Reg8) (s : State) : Result :=
  let q := bitMem f (xyAddr xy d s) (m1 2 s)
  retire 4 23 (setReg r q.1 q.2)

end Sys2Proof.Machine
end

