-- ==== Sys2Proof/Machine/Alu16.lean ====
section
/-! DEFINITION. The 16-bit arithmetic group (45_alu16.md R260 to R267). -/

namespace Sys2Proof.Machine

/-- `ADD HL,rr` (R260). -/
def execAddHlRr (rr : RegPair) (s : State) : Result :=
  let s1 := m1 1 s
  let q := add16 s1.main.hl (getPair rr s1) (flags s1)
  retire 1 11 (putFlags xyMask q.2 (setPair .hl q.1 s1))

/-- `ADD XY,rr` (R261). -/
def execAddXyRr (xy : IndexReg) (pp : IndexPair) (s : State) : Result :=
  let s1 := m1 2 s
  let q := add16 (getXy xy s1) (getIndexPair xy pp s1) (flags s1)
  retire 2 15 (putFlags xyMask q.2 (setXy xy q.1 s1))

/-- `ADC HL,rr` (R262). -/
def execAdcHlRr (rr : RegPair) (s : State) : Result :=
  let s1 := m1 2 s
  let q := adc16 s1.main.hl (getPair rr s1) (flags s1).c
  retire 2 15 (putFlags xyMask q.2 (setPair .hl q.1 s1))

/-- `SBC HL,rr` (R263). -/
def execSbcHlRr (rr : RegPair) (s : State) : Result :=
  let s1 := m1 2 s
  let q := sbc16 s1.main.hl (getPair rr s1) (flags s1).c
  retire 2 15 (putFlags xyMask q.2 (setPair .hl q.1 s1))

/-- `INC rr` (R264). -/
def execIncRr (rr : RegPair) (s : State) : Result :=
  let s1 := m1 1 s
  retire 1 6 (setPair rr (getPair rr s1 + 1#16) s1)

/-- `INC XY` (R265). -/
def execIncXy (xy : IndexReg) (s : State) : Result :=
  let s1 := m1 2 s
  retire 2 10 (setXy xy (getXy xy s1 + 1#16) s1)

/-- `DEC rr` (R266). -/
def execDecRr (rr : RegPair) (s : State) : Result :=
  let s1 := m1 1 s
  retire 1 6 (setPair rr (getPair rr s1 - 1#16) s1)

/-- `DEC XY` (R267). -/
def execDecXy (xy : IndexReg) (s : State) : Result :=
  let s1 := m1 2 s
  retire 2 10 (setXy xy (getXy xy s1 - 1#16) s1)

end Sys2Proof.Machine
end

