-- ==== Sys2Proof/Machine/Alu8.lean ====
section
/-! DEFINITION. The 8-bit arithmetic and logic group (43_alu8.md R213 to R228). -/

namespace Sys2Proof.Machine

/-- `ADD A,r`: register form (R214, R213). -/
def execAddR (r : Reg8) (s : State) : Result := aluReg aluAdd r s

/-- `ADD A,(HL)`: `(HL)` form (R214, R213). -/
def execAddMHl (s : State) : Result := aluMHl aluAdd s

/-- `ADD A,n`: immediate form (R214, R213). -/
def execAddN (n : Byte) (s : State) : Result := aluImm aluAdd n s

/-- `ADD A,(XY+d)`: `(XY+d)` form (R214, R213). -/
def execAddMXyd (xy : IndexReg) (d : Byte) (s : State) : Result := aluMXyd aluAdd xy d s

/-- `ADD A,XYH/XYL`: index half form (R214, R213). -/
def execAddXyh (xy : IndexReg) (h : Half) (s : State) : Result := aluHalf aluAdd xy h s

/-- `ADC A,r`: register form (R215, R213). -/
def execAdcR (r : Reg8) (s : State) : Result := aluReg aluAdc r s

/-- `ADC A,(HL)`: `(HL)` form (R215, R213). -/
def execAdcMHl (s : State) : Result := aluMHl aluAdc s

/-- `ADC A,n`: immediate form (R215, R213). -/
def execAdcN (n : Byte) (s : State) : Result := aluImm aluAdc n s

/-- `ADC A,(XY+d)`: `(XY+d)` form (R215, R213). -/
def execAdcMXyd (xy : IndexReg) (d : Byte) (s : State) : Result := aluMXyd aluAdc xy d s

/-- `ADC A,XYH/XYL`: index half form (R215, R213). -/
def execAdcXyh (xy : IndexReg) (h : Half) (s : State) : Result := aluHalf aluAdc xy h s

/-- `SUB r`: register form (R216, R213). -/
def execSubR (r : Reg8) (s : State) : Result := aluReg aluSub r s

/-- `SUB (HL)`: `(HL)` form (R216, R213). -/
def execSubMHl (s : State) : Result := aluMHl aluSub s

/-- `SUB n`: immediate form (R216, R213). -/
def execSubN (n : Byte) (s : State) : Result := aluImm aluSub n s

/-- `SUB (XY+d)`: `(XY+d)` form (R216, R213). -/
def execSubMXyd (xy : IndexReg) (d : Byte) (s : State) : Result := aluMXyd aluSub xy d s

/-- `SUB XYH/XYL`: index half form (R216, R213). -/
def execSubXyh (xy : IndexReg) (h : Half) (s : State) : Result := aluHalf aluSub xy h s

/-- `SBC A,r`: register form (R217, R213). -/
def execSbcR (r : Reg8) (s : State) : Result := aluReg aluSbc r s

/-- `SBC A,(HL)`: `(HL)` form (R217, R213). -/
def execSbcMHl (s : State) : Result := aluMHl aluSbc s

/-- `SBC A,n`: immediate form (R217, R213). -/
def execSbcN (n : Byte) (s : State) : Result := aluImm aluSbc n s

/-- `SBC A,(XY+d)`: `(XY+d)` form (R217, R213). -/
def execSbcMXyd (xy : IndexReg) (d : Byte) (s : State) : Result := aluMXyd aluSbc xy d s

/-- `SBC A,XYH/XYL`: index half form (R217, R213). -/
def execSbcXyh (xy : IndexReg) (h : Half) (s : State) : Result := aluHalf aluSbc xy h s

/-- `AND r`: register form (R218, R213). -/
def execAndR (r : Reg8) (s : State) : Result := aluReg aluAnd r s

/-- `AND (HL)`: `(HL)` form (R218, R213). -/
def execAndMHl (s : State) : Result := aluMHl aluAnd s

/-- `AND n`: immediate form (R218, R213). -/
def execAndN (n : Byte) (s : State) : Result := aluImm aluAnd n s

/-- `AND (XY+d)`: `(XY+d)` form (R218, R213). -/
def execAndMXyd (xy : IndexReg) (d : Byte) (s : State) : Result := aluMXyd aluAnd xy d s

/-- `AND XYH/XYL`: index half form (R218, R213). -/
def execAndXyh (xy : IndexReg) (h : Half) (s : State) : Result := aluHalf aluAnd xy h s

/-- `XOR r`: register form (R219, R213). -/
def execXorR (r : Reg8) (s : State) : Result := aluReg aluXor r s

/-- `XOR (HL)`: `(HL)` form (R219, R213). -/
def execXorMHl (s : State) : Result := aluMHl aluXor s

/-- `XOR n`: immediate form (R219, R213). -/
def execXorN (n : Byte) (s : State) : Result := aluImm aluXor n s

/-- `XOR (XY+d)`: `(XY+d)` form (R219, R213). -/
def execXorMXyd (xy : IndexReg) (d : Byte) (s : State) : Result := aluMXyd aluXor xy d s

/-- `XOR XYH/XYL`: index half form (R219, R213). -/
def execXorXyh (xy : IndexReg) (h : Half) (s : State) : Result := aluHalf aluXor xy h s

/-- `OR r`: register form (R220, R213). -/
def execOrR (r : Reg8) (s : State) : Result := aluReg aluOr r s

/-- `OR (HL)`: `(HL)` form (R220, R213). -/
def execOrMHl (s : State) : Result := aluMHl aluOr s

/-- `OR n`: immediate form (R220, R213). -/
def execOrN (n : Byte) (s : State) : Result := aluImm aluOr n s

/-- `OR (XY+d)`: `(XY+d)` form (R220, R213). -/
def execOrMXyd (xy : IndexReg) (d : Byte) (s : State) : Result := aluMXyd aluOr xy d s

/-- `OR XYH/XYL`: index half form (R220, R213). -/
def execOrXyh (xy : IndexReg) (h : Half) (s : State) : Result := aluHalf aluOr xy h s

/-- `CP r`: register form (R221, R213). -/
def execCpR (r : Reg8) (s : State) : Result := aluReg aluCp r s

/-- `CP (HL)`: `(HL)` form (R221, R213). -/
def execCpMHl (s : State) : Result := aluMHl aluCp s

/-- `CP n`: immediate form (R221, R213). -/
def execCpN (n : Byte) (s : State) : Result := aluImm aluCp n s

/-- `CP (XY+d)`: `(XY+d)` form (R221, R213). -/
def execCpMXyd (xy : IndexReg) (d : Byte) (s : State) : Result := aluMXyd aluCp xy d s

/-- `CP XYH/XYL`: index half form (R221, R213). -/
def execCpXyh (xy : IndexReg) (h : Half) (s : State) : Result := aluHalf aluCp xy h s

/-- `INC r` (R222). -/
def execIncR (r : Reg8) (s : State) : Result := stepReg inc8 r s

/-- `INC (HL)` (R223). -/
def execIncMHl (s : State) : Result := retire 1 11 (stepMem inc8 s.main.hl (m1 1 s))

/-- `INC (XY+d)` (R224). -/
def execIncMXyd (xy : IndexReg) (d : Byte) (s : State) : Result := retire 3 23 (stepMem inc8 (xyAddr xy d s) (m1 2 s))

/-- `INC XYH` and `INC XYL` (R228): the other half is unchanged. -/
def execIncXyh (xy : IndexReg) (h : Half) (s : State) : Result := stepHalf inc8 xy h s

/-- `DEC r` (R225). -/
def execDecR (r : Reg8) (s : State) : Result := stepReg dec8 r s

/-- `DEC (HL)` (R226). -/
def execDecMHl (s : State) : Result := retire 1 11 (stepMem dec8 s.main.hl (m1 1 s))

/-- `DEC (XY+d)` (R227). -/
def execDecMXyd (xy : IndexReg) (d : Byte) (s : State) : Result := retire 3 23 (stepMem dec8 (xyAddr xy d s) (m1 2 s))

/-- `DEC XYH` and `DEC XYL` (R228): the other half is unchanged. -/
def execDecXyh (xy : IndexReg) (h : Half) (s : State) : Result := stepHalf dec8 xy h s

end Sys2Proof.Machine
end

