-- ==== Sys2Proof/Machine/Bit.lean ====
section
/-! DEFINITION. The bit test, set and reset group (47_bit.md R290 to R298). -/

namespace Sys2Proof.Machine

/-- BIT on indexed memory (R292). -/
def bitIndexed (xy : IndexReg) (d : Byte) (b : Code3) (s : State) : Result :=
  let a := xyAddr xy d s
  let p := memRead (m1 2 s) a
  retire 4 20 (putFlags xyMask (bitFlags b.num p.1 (hiByte a) (flags p.2)) p.2)

/-- `BIT b,r` (R290). -/
def execBitR (b : Code3) (r : Reg8) (s : State) : Result :=
  let s1 := m1 2 s
  let v := getReg r s1
  retire 2 8 (putFlags xyMask (bitFlags b.num v v (flags s1)) s1)

/-- `BIT b,(HL)` (R291): F5 and F3 are free values in both `UNDOC_FLAGS` modes (log 14). -/
def execBitMHl (b : Code3) (s : State) : Result :=
  let p := memRead (m1 2 s) s.main.hl
  retire 2 12 (putFlagsFree xyMask (bitFlags b.num p.1 0#8 (flags p.2)) p.2)

/-- `BIT b,(XY+d)` (R292): F5 and F3 come from the high byte of the address. -/
def execBitMXyd (xy : IndexReg) (d : Byte) (b : Code3) (s : State) : Result := bitIndexed xy d b s

/-- The undocumented encodings of `BIT b,(XY+d)`, which write no register (R292): F5 and F3 come from the high byte of the address. -/
def execBitMXydAlias (xy : IndexReg) (d : Byte) (b : Code3) (_r : Reg8) (s : State) : Result := bitIndexed xy d b s

/-- `SET b,r` (R293). -/
def execSetR (b : Code3) (r : Reg8) (s : State) : Result := bitOpReg (fun v => setBit v b.num) r s

/-- `SET b,(HL)` (R294). -/
def execSetMHl (b : Code3) (s : State) : Result := bitOpMHl (fun v => setBit v b.num) s

/-- `SET b,(XY+d)` (R295). -/
def execSetMXyd (xy : IndexReg) (d : Byte) (b : Code3) (s : State) : Result :=
  bitOpMXyd (fun v => setBit v b.num) xy d s

/-- `SET b,(XY+d),r` (R295). -/
def execSetMXydR (xy : IndexReg) (d : Byte) (b : Code3) (r : Reg8) (s : State) : Result :=
  bitOpMXydR (fun v => setBit v b.num) xy d r s

/-- `RES b,r` (R296). -/
def execResR (b : Code3) (r : Reg8) (s : State) : Result := bitOpReg (fun v => clearBit v b.num) r s

/-- `RES b,(HL)` (R297). -/
def execResMHl (b : Code3) (s : State) : Result := bitOpMHl (fun v => clearBit v b.num) s

/-- `RES b,(XY+d)` (R298). -/
def execResMXyd (xy : IndexReg) (d : Byte) (b : Code3) (s : State) : Result :=
  bitOpMXyd (fun v => clearBit v b.num) xy d s

/-- `RES b,(XY+d),r` (R298). -/
def execResMXydR (xy : IndexReg) (d : Byte) (b : Code3) (r : Reg8) (s : State) : Result :=
  bitOpMXydR (fun v => clearBit v b.num) xy d r s

end Sys2Proof.Machine
end

