-- ==== Sys2Proof/Machine/Control.lean ====
section
/-! DEFINITION. The jump, call and return group (48_control_flow.md R300 to R318). -/

namespace Sys2Proof.Machine

/-- `JP nn` (R301). -/
def execJp (nn : Word) (s : State) : Result := jumpTo nn 10 (m1 1 s)

/-- `JP cc,nn` (R302): 10 T-states both ways. -/
def execJpCc (cc : Cond) (nn : Word) (s : State) : Result :=
  let s1 := m1 1 s
  if condHolds cc s1 then jumpTo nn 10 s1 else retire 3 10 s1

/-- `JR e` (R303). -/
def execJr (e : Byte) (s : State) : Result :=
  let s1 := m1 1 s
  jumpTo (relTarget e s1) 12 s1

/-- `JR cc,e` (R304). -/
def execJrCc (cc : JrCond) (e : Byte) (s : State) : Result :=
  let s1 := m1 1 s
  if jrCondHolds cc s1 then jumpTo (relTarget e s1) 12 s1 else retire 2 7 s1

/-- `JP (HL)` (R305): no memory read. -/
def execJpHl (s : State) : Result :=
  let s1 := m1 1 s
  jumpTo s1.main.hl 4 s1

/-- `JP (XY)` (R306). -/
def execJpXy (xy : IndexReg) (s : State) : Result :=
  let s1 := m1 2 s
  jumpTo (getXy xy s1) 8 s1

/-- `DJNZ e` (R307). -/
def execDjnz (e : Byte) (s : State) : Result :=
  let s1 := setReg .b (s.main.b - 1#8) (m1 1 s)
  if s1.main.b != 0#8 then jumpTo (relTarget e s1) 13 s1 else retire 2 8 s1

/-- `CALL nn` (R308): the return address is pc + 3. -/
def execCall (nn : Word) (s : State) : Result := jumpTo nn 17 (push16 (s.pc + 3#16) (m1 1 s))

/-- `CALL cc,nn` (R309). -/
def execCallCc (cc : Cond) (nn : Word) (s : State) : Result :=
  let s1 := m1 1 s
  if condHolds cc s1 then jumpTo nn 17 (push16 (s1.pc + 3#16) s1) else retire 3 10 s1

/-- `RET` (R310). -/
def execRet (s : State) : Result :=
  let p := pop16 (m1 1 s)
  jumpTo p.1 10 p.2

/-- `RET cc` (R311). -/
def execRetCc (cc : Cond) (s : State) : Result :=
  let s1 := m1 1 s
  if condHolds cc s1 then jumpTo (pop16 s1).1 11 (pop16 s1).2 else retire 1 5 s1

/-- `RST t` (R312): the target is `y * 8`. -/
def execRst (t : Code3) (s : State) : Result := jumpTo (BitVec.ofNat 16 (t.num * 8)) 11 (push16 (s.pc + 1#16) (m1 1 s))

/-- `RETI` (R317). -/
def execReti (s : State) : Result := returnFromInterrupt (m1 2 s)

/-- `RETN` (R318). -/
def execRetn (s : State) : Result := returnFromInterrupt (m1 2 s)

/-- The undocumented encodings of `RETN` (R318). -/
def execRetnAlias (_y : Code3) (s : State) : Result := returnFromInterrupt (m1 2 s)

end Sys2Proof.Machine
end

