-- ==== Sys2Proof/Machine/Exchange.lean ====
section
/-! DEFINITION. The exchange, block transfer and block search group (42_exchange_block.md R190 to R203). -/

namespace Sys2Proof.Machine

/-- The exchange of a word with the top of the stack: two reads, then two writes, high byte first. Answers the word that was
on the stack (R193). -/
def exchangeSp (w : Word) (s : State) : Word × State :=
  let lo := memRead s s.sp
  let hi := memRead lo.2 (s.sp + 1#16)
  let s1 := memWrite hi.2 (s.sp + 1#16) (hiByte w)
  (joinBytes hi.1 lo.1, memWrite s1 s.sp (loByte w))

/-- One block transfer: the byte at HL goes to DE, HL and DE move by `delta`, BC counts down (R196, R197). -/
def blockMove (delta : Word) (s : State) : State :=
  let p := memRead s s.main.hl
  let s1 := memWrite p.2 s.main.de p.1
  let bc := s.main.bc - 1#16
  let g := ((s.main.setHl (s.main.hl + delta)).setDe (s.main.de + delta)).setBc bc
  putFlags xyMask (blockMoveFlags p.1 s.main.a bc (flags s)) (setMain g s1)

/-- One block search: the byte at HL is compared with A, HL moves by `delta`, BC counts down. Answers the difference (R200,
R201). -/
def blockSearch (delta : Word) (s : State) : Byte × State :=
  let p := memRead s s.main.hl
  let bc := s.main.bc - 1#16
  let g := (s.main.setHl (s.main.hl + delta)).setBc bc
  (s.main.a - p.1, putFlags xyMask (blockSearchFlags p.1 s.main.a bc (flags s)) (setMain g p.2))

/-- `EX DE,HL` (R190). -/
def execExDeHl (s : State) : Result :=
  let s1 := m1 1 s
  retire 1 4 (setMain ((s1.main.setDe s1.main.hl).setHl s1.main.de) s1)

/-- `EX AF,AF'` (R191). -/
def execExAfAf (s : State) : Result :=
  let s1 := m1 1 s
  retire 1 4
    { s1 with
      main := { s1.main with a := s1.alt.a, f := s1.alt.f }
      alt := { s1.alt with a := s1.main.a, f := s1.main.f } }

/-- `EXX` (R192). -/
def execExx (s : State) : Result :=
  let s1 := m1 1 s
  retire 1 4
    { s1 with
      main := { s1.alt with a := s1.main.a, f := s1.main.f }
      alt := { s1.main with a := s1.alt.a, f := s1.alt.f } }

/-- `EX (SP),HL` (R193). -/
def execExMSpHl (s : State) : Result :=
  let q := exchangeSp s.main.hl (m1 1 s)
  retire 1 19 (setPair .hl q.1 q.2)

/-- `EX (SP),XY` (R194). -/
def execExMSpXy (xy : IndexReg) (s : State) : Result :=
  let q := exchangeSp (getXy xy s) (m1 2 s)
  retire 2 23 (setXy xy q.1 q.2)

/-- `LDI` (R196). -/
def execLdi (s : State) : Result := retire 2 16 (blockMove 1#16 (m1 2 s))

/-- `LDD` (R197). -/
def execLdd (s : State) : Result := retire 2 16 (blockMove (-1#16) (m1 2 s))

/-- `LDIR` (R198): repeats while BC ≠ 0. -/
def execLdir (s : State) : Result :=
  let s1 := blockMove 1#16 (m1 2 s)
  repeatOrRetire (s1.main.bc != 0#16) s1

/-- `LDDR` (R199): repeats while BC ≠ 0. -/
def execLddr (s : State) : Result :=
  let s1 := blockMove (-1#16) (m1 2 s)
  repeatOrRetire (s1.main.bc != 0#16) s1

/-- `CPI` (R200). -/
def execCpi (s : State) : Result := retire 2 16 (blockSearch 1#16 (m1 2 s)).2

/-- `CPD` (R201). -/
def execCpd (s : State) : Result := retire 2 16 (blockSearch (-1#16) (m1 2 s)).2

/-- `CPIR` (R202): repeats while BC ≠ 0 and the byte differs from A. -/
def execCpir (s : State) : Result :=
  let q := blockSearch 1#16 (m1 2 s)
  repeatOrRetire (q.2.main.bc != 0#16 && q.1 != 0#8) q.2

/-- `CPDR` (R203): repeats while BC ≠ 0 and the byte differs from A. -/
def execCpdr (s : State) : Result :=
  let q := blockSearch (-1#16) (m1 2 s)
  repeatOrRetire (q.2.main.bc != 0#16 && q.1 != 0#8) q.2

end Sys2Proof.Machine
end

