-- ==== Sys2Proof/Machine/General.lean ====
section
/-! DEFINITION. The general-purpose arithmetic and CPU control group (44_general_control.md R240 to R253), and the ignored index
prefix (30_encoding.md R104). -/

namespace Sys2Proof.Machine

/-- A is negated (R251). -/
def negateA (s : State) : Result :=
  let s1 := m1 2 s
  let q := neg8 s1.main.a
  retire 2 8 (putFlags xyMask q.2 (setReg .a q.1 s1))

/-- The 2-byte no-operation (R252). -/
def edNop (s : State) : Result := retire 2 8 (m1 2 s)

/-- IM is written (R248 to R250, R253). -/
def setIntMode (im : IntMode) (s : State) : Result := retire 2 8 { m1 2 s with im := im }

/-- The mode an undocumented encoding of IM sets, by its field `y` (R253). -/
def aliasMode (y : Code3) : IntMode :=
  match y with
  | .k6 => .im1
  | .k7 => .im2
  | .k0 | .k1 | .k2 | .k3 | .k4 | .k5 => .im0

/-- `DAA` (R240). -/
def execDaa (s : State) : Result :=
  let s1 := m1 1 s
  let q := Sys2Proof.Machine.daa s1.main.a (flags s1)
  retire 1 4 (putFlags xyMask q.2 (setReg .a q.1 s1))

/-- `CPL` (R241). -/
def execCpl (s : State) : Result :=
  let s1 := m1 1 s
  retire 1 4 (putFlags xyMask (cplFlags (~~~s1.main.a) (flags s1)) (setReg .a (~~~s1.main.a) s1))

/-- `CCF` (R242). -/
def execCcf (s : State) : Result :=
  let s1 := m1 1 s
  retire 1 4 (putFlags xyMask (ccfFlags s1.main.a (flags s1)) s1)

/-- `SCF` (R243). -/
def execScf (s : State) : Result :=
  let s1 := m1 1 s
  retire 1 4 (putFlags xyMask (scfFlags s1.main.a (flags s1)) s1)

/-- `NEG` (R251). -/
def execNeg (s : State) : Result := negateA s

/-- The undocumented encodings of `NEG` (R251). -/
def execNegAlias (_y : Code3) (s : State) : Result := negateA s

/-- `NOP` (R244). -/
def execNop (s : State) : Result := retire 1 4 (m1 1 s)

/-- `NOP (ED 77/7F)` (R252). -/
def execNopEd77 (_q : Bool) (s : State) : Result := edNop s

/-- `NOP (ED undefined, x=0)` (R252). -/
def execNopEdX0 (_y : Code3) (_z : Code3) (s : State) : Result := edNop s

/-- `NOP (ED undefined, x=3)` (R252). -/
def execNopEdX3 (_y : Code3) (_z : Code3) (s : State) : Result := edNop s

/-- `NOP (ED undefined, 80-9F)` (R252). -/
def execNopEd80 (_p : Code2) (_z : Code3) (s : State) : Result := edNop s

/-- `NOP (ED undefined, A4-A7/AC-AF/B4-B7/BC-BF)` (R252). -/
def execNopEdA4 (_p : Code2) (_w : Code2) (s : State) : Result := edNop s

/-- `HALT` (R245): PC moves past it, the status is `Halted` (R403). -/
def execHalt (s : State) : Result :=
  let s1 := m1 1 s
  .next { s1 with halted := true, pc := s1.pc + 1#16, cycles := s1.cycles + 4, status := .halted }

/-- `DI` (R246). -/
def execDi (s : State) : Result := retire 1 4 { m1 1 s with iff1 := false, iff2 := false }

/-- `EI` (R247): the flip-flops are set at once, acceptance is deferred by `ei_inhibit`. -/
def execEi (s : State) : Result := retire 1 4 { m1 1 s with iff1 := true, iff2 := true, eiInhibit := true }

/-- `IM 0` (R248). -/
def execIm0 (s : State) : Result := setIntMode .im0 s

/-- `IM 1` (R249). -/
def execIm1 (s : State) : Result := setIntMode .im1 s

/-- `IM 2` (R250). -/
def execIm2 (s : State) : Result := setIntMode .im2 s

/-- The undocumented encodings of IM (R253): `y` = 6 sets mode 1, 7 mode 2, the others mode 0. -/
def execImAlias (y : Code3) (s : State) : Result := setIntMode (aliasMode y) s

/-- The ignored index prefix, a step of its own (R104): the next boundary accepts no interrupt (R41). -/
def execIgnoredIndexPrefix (_xy : IndexReg) (s : State) : Result := retire 1 4 { m1 1 s with afterPrefix := true }

end Sys2Proof.Machine
end

