-- ==== Sys2Proof/Machine/Io.lean ====
section
/-! DEFINITION. The input and output group (49_io.md R330 to R344). -/

namespace Sys2Proof.Machine

/-- The flags of one block I/O transfer, from the new B (R336). -/
def putBlockIoFlags (v : Byte) (k : Nat) (s : State) : State := putFlags blockIoMask (blockIoFlags v k s.main.b) s

/-- One block input: a byte from port BC goes to HL, then B counts down and HL moves by `delta`; `k` is the byte plus C moved
by `delta`, modulo 256 (R337, R339). -/
def blockIn (delta : Int) (s : State) : State :=
  let p := ioRead s s.main.bc
  let s1 := memWrite p.2 s.main.hl p.1
  let g := { s.main.setHl (s.main.hl + BitVec.ofInt 16 delta) with b := s.main.b - 1#8 }
  putBlockIoFlags p.1 (p.1.toNat + (s.main.c + BitVec.ofInt 8 delta).toNat) (setMain g s1)

/-- One block output: B counts down, then the byte at HL goes to port BC, and HL moves by `delta`; `k` is the byte plus the
new L (R341, R343). -/
def blockOut (delta : Int) (s : State) : State :=
  let p := memRead s s.main.hl
  let b := s.main.b - 1#8
  let s1 := ioWrite p.2 (joinBytes b s.main.c) p.1
  let g := { s.main.setHl (s.main.hl + BitVec.ofInt 16 delta) with b := b }
  putBlockIoFlags p.1 (p.1.toNat + g.l.toNat) (setMain g s1)

/-- `IN A,(n)` (R330): A is the high byte of the port address. -/
def execInAN (n : Byte) (s : State) : Result :=
  let p := ioRead (m1 1 s) (joinBytes s.main.a n)
  retire 2 11 (setReg .a p.1 p.2)

/-- `IN r,(C)` (R331): the port address is BC. -/
def execInRC (r : Reg8) (s : State) : Result :=
  let p := ioRead (m1 2 s) s.main.bc
  retire 2 12 (putFlags xyMask (digitFlags p.1 (flags s)) (setReg r p.1 p.2))

/-- `IN F,(C)` (R332): the read happens, no register is written. -/
def execInFC (s : State) : Result :=
  let p := ioRead (m1 2 s) s.main.bc
  retire 2 12 (putFlags xyMask (digitFlags p.1 (flags s)) p.2)

/-- `OUT (n),A` (R333). -/
def execOutNA (n : Byte) (s : State) : Result := retire 2 11 (ioWrite (m1 1 s) (joinBytes s.main.a n) s.main.a)

/-- `OUT (C),r` (R334): the value written is `r`. -/
def execOutCR (r : Reg8) (s : State) : Result := retire 2 12 (ioWrite (m1 2 s) s.main.bc (getReg r s))

/-- `OUT (C),0` (R335): the byte written is `OUT_C_ZERO`. -/
def execOutC0 (s : State) : Result := retire 2 12 (ioWrite (m1 2 s) s.main.bc s.params.outCZero)

/-- `INI` (R337). -/
def execIni (s : State) : Result := retire 2 16 (blockIn 1 (m1 2 s))

/-- `IND` (R339). -/
def execInd (s : State) : Result := retire 2 16 (blockIn (-1) (m1 2 s))

/-- `INIR` (R338): repeats while B ≠ 0. -/
def execInir (s : State) : Result :=
  let s1 := blockIn 1 (m1 2 s)
  repeatOrRetire (s1.main.b != 0#8) s1

/-- `INDR` (R340): repeats while B ≠ 0. -/
def execIndr (s : State) : Result :=
  let s1 := blockIn (-1) (m1 2 s)
  repeatOrRetire (s1.main.b != 0#8) s1

/-- `OUTI` (R341). -/
def execOuti (s : State) : Result := retire 2 16 (blockOut 1 (m1 2 s))

/-- `OUTD` (R343). -/
def execOutd (s : State) : Result := retire 2 16 (blockOut (-1) (m1 2 s))

/-- `OTIR` (R342): repeats while B ≠ 0. -/
def execOtir (s : State) : Result :=
  let s1 := blockOut 1 (m1 2 s)
  repeatOrRetire (s1.main.b != 0#8) s1

/-- `OTDR` (R344): repeats while B ≠ 0. -/
def execOtdr (s : State) : Result :=
  let s1 := blockOut (-1) (m1 2 s)
  repeatOrRetire (s1.main.b != 0#8) s1

end Sys2Proof.Machine
end

