-- ==== Sys2Proof/Machine/Load16.lean ====
section
/-! DEFINITION. The 16-bit load and stack group (41_load16.md R170 to R183). -/

namespace Sys2Proof.Machine

/-- `LD rr,nn` (R170). -/
def execLdRrNn (rr : RegPair) (nn : Word) (s : State) : Result := retire 3 10 (setPair rr nn (m1 1 s))

/-- `LD XY,nn` (R171). -/
def execLdXyNn (xy : IndexReg) (nn : Word) (s : State) : Result := retire 4 14 (setXy xy nn (m1 2 s))

/-- `LD HL,(nn)`, unprefixed form (R172). -/
def execLdHlMNn (nn : Word) (s : State) : Result :=
  let p := memRead16 (m1 1 s) nn
  retire 3 16 (setPair .hl p.1 p.2)

/-- `LD rr,(nn)`, ED form (R173). -/
def execLdRrMNn (rr : RegPair) (nn : Word) (s : State) : Result :=
  let p := memRead16 (m1 2 s) nn
  retire 4 20 (setPair rr p.1 p.2)

/-- `LD XY,(nn)` (R174). -/
def execLdXyMNn (xy : IndexReg) (nn : Word) (s : State) : Result :=
  let p := memRead16 (m1 2 s) nn
  retire 4 20 (setXy xy p.1 p.2)

/-- `LD (nn),HL`, unprefixed form (R175). -/
def execLdMNnHl (nn : Word) (s : State) : Result := retire 3 16 (memWrite16 (m1 1 s) nn s.main.hl)

/-- `LD (nn),rr`, ED form (R176). -/
def execLdMNnRr (rr : RegPair) (nn : Word) (s : State) : Result := retire 4 20 (memWrite16 (m1 2 s) nn (getPair rr s))

/-- `LD (nn),XY` (R177). -/
def execLdMNnXy (xy : IndexReg) (nn : Word) (s : State) : Result := retire 4 20 (memWrite16 (m1 2 s) nn (getXy xy s))

/-- `LD SP,HL` (R178). -/
def execLdSpHl (s : State) : Result :=
  let s1 := m1 1 s
  retire 1 6 { s1 with sp := s1.main.hl }

/-- `LD SP,XY` (R179). -/
def execLdSpXy (xy : IndexReg) (s : State) : Result :=
  let s1 := m1 2 s
  retire 2 10 { s1 with sp := getXy xy s1 }

/-- `PUSH qq` (R180). -/
def execPushQq (qq : StackPair) (s : State) : Result := retire 1 11 (push16 (getStackPair qq s) (m1 1 s))

/-- `PUSH XY` (R181). -/
def execPushXy (xy : IndexReg) (s : State) : Result := retire 2 15 (push16 (getXy xy s) (m1 2 s))

/-- `POP qq` (R182): `POP AF` writes F whole. -/
def execPopQq (qq : StackPair) (s : State) : Result :=
  let p := pop16 (m1 1 s)
  retire 1 10 (setStackPair qq p.1 p.2)

/-- `POP XY` (R183). -/
def execPopXy (xy : IndexReg) (s : State) : Result :=
  let p := pop16 (m1 2 s)
  retire 2 14 (setXy xy p.1 p.2)

end Sys2Proof.Machine
end

