-- ==== Sys2Proof/Machine/Load8.lean ====
section
/-! DEFINITION. The 8-bit load group (40_load8.md R140 to R159). -/

namespace Sys2Proof.Machine

/-- `LD r,r'` (R140). -/
def execLdRR (dst : Reg8) (src : Reg8) (s : State) : Result :=
  let s1 := m1 1 s
  retire 1 4 (setReg dst (getReg src s1) s1)

/-- `LD r,n` (R141). -/
def execLdRN (r : Reg8) (n : Byte) (s : State) : Result := retire 2 7 (setReg r n (m1 1 s))

/-- `LD r,(HL)` (R142): the read uses the old HL. -/
def execLdRMHl (r : Reg8) (s : State) : Result :=
  let p := memRead (m1 1 s) s.main.hl
  retire 1 7 (setReg r p.1 p.2)

/-- `LD r,(XY+d)` (R143): `r` is the real register. -/
def execLdRMXyd (r : Reg8) (xy : IndexReg) (d : Byte) (s : State) : Result :=
  let p := memRead (m1 2 s) (xyAddr xy d s)
  retire 3 19 (setReg r p.1 p.2)

/-- `LD (HL),r` (R144). -/
def execLdMHlR (r : Reg8) (s : State) : Result := retire 1 7 (memWrite (m1 1 s) s.main.hl (getReg r s))

/-- `LD (XY+d),r` (R145): `r` is the real register. -/
def execLdMXydR (xy : IndexReg) (d : Byte) (r : Reg8) (s : State) : Result :=
  retire 3 19 (memWrite (m1 2 s) (xyAddr xy d s) (getReg r s))

/-- `LD (HL),n` (R146). -/
def execLdMHlN (n : Byte) (s : State) : Result := retire 2 10 (memWrite (m1 1 s) s.main.hl n)

/-- `LD (XY+d),n` (R147). -/
def execLdMXydN (xy : IndexReg) (d : Byte) (n : Byte) (s : State) : Result :=
  retire 4 19 (memWrite (m1 2 s) (xyAddr xy d s) n)

/-- `LD A,(BC)` (R148). -/
def execLdAMBc (s : State) : Result :=
  let p := memRead (m1 1 s) s.main.bc
  retire 1 7 (setReg .a p.1 p.2)

/-- `LD A,(DE)` (R149). -/
def execLdAMDe (s : State) : Result :=
  let p := memRead (m1 1 s) s.main.de
  retire 1 7 (setReg .a p.1 p.2)

/-- `LD A,(nn)` (R150). -/
def execLdAMNn (nn : Word) (s : State) : Result :=
  let p := memRead (m1 1 s) nn
  retire 3 13 (setReg .a p.1 p.2)

/-- `LD (BC),A` (R151). -/
def execLdMBcA (s : State) : Result := retire 1 7 (memWrite (m1 1 s) s.main.bc s.main.a)

/-- `LD (DE),A` (R152). -/
def execLdMDeA (s : State) : Result := retire 1 7 (memWrite (m1 1 s) s.main.de s.main.a)

/-- `LD (nn),A` (R153). -/
def execLdMNnA (nn : Word) (s : State) : Result := retire 3 13 (memWrite (m1 1 s) nn s.main.a)

/-- `LD A,I` (R154): PV takes IFF2. -/
def execLdAI (s : State) : Result :=
  let s1 := m1 2 s
  retire 2 9 (putFlags xyMask (specialLoadFlags s1.i s1.iff2 (flags s1)) (setReg .a s1.i s1))

/-- `LD A,R` (R155): R has this instruction's two increments; PV takes IFF2. -/
def execLdAR (s : State) : Result :=
  let s1 := m1 2 s
  retire 2 9 (putFlags xyMask (specialLoadFlags s1.r s1.iff2 (flags s1)) (setReg .a s1.r s1))

/-- `LD I,A` (R156). -/
def execLdIA (s : State) : Result :=
  let s1 := m1 2 s
  retire 2 9 { s1 with i := s1.main.a }

/-- `LD R,A` (R157): after this instruction's increments, all 8 bits. -/
def execLdRA (s : State) : Result :=
  let s1 := m1 2 s
  retire 2 9 { s1 with r := s1.main.a }

/-- `LD r,r'` with index halves (R158). -/
def execLdRRXyh (xy : IndexReg) (dst : HalfReg) (src : HalfReg) (s : State) : Result :=
  let s1 := m1 2 s
  retire 2 8 (setHalfReg xy dst (getHalfReg xy src s1) s1)

/-- `LD XYH,n` and `LD XYL,n` (R159). -/
def execLdXyhN (xy : IndexReg) (h : Half) (n : Byte) (s : State) : Result := retire 3 11 (setHalf xy h n (m1 2 s))

end Sys2Proof.Machine
end

