-- ==== Sys2Proof/Machine/Rotate.lean ====
section
/-! DEFINITION. The rotate and shift group (46_rotate_shift.md R270 to R285). -/

namespace Sys2Proof.Machine

/-- `RLCA` (R270). -/
def execRlca (s : State) : Result := rotAcc rlc8 s

/-- `RLA` (R271). -/
def execRla (s : State) : Result := rotAcc rl8 s

/-- `RRCA` (R272). -/
def execRrca (s : State) : Result := rotAcc rrc8 s

/-- `RRA` (R273). -/
def execRra (s : State) : Result := rotAcc rr8 s

/-- `RLC r` (R275). -/
def execRlcR (r : Reg8) (s : State) : Result := rotReg rlc8 r s

/-- `RLC (HL)` (R275). -/
def execRlcMHl (s : State) : Result := rotMHl rlc8 s

/-- `RLC (XY+d)` (R275). -/
def execRlcMXyd (xy : IndexReg) (d : Byte) (s : State) : Result := rotMXyd rlc8 xy d s

/-- `RLC (XY+d),r` (R275, R274). -/
def execRlcMXydR (xy : IndexReg) (d : Byte) (r : Reg8) (s : State) : Result := rotMXydR rlc8 xy d r s

/-- `RRC r` (R276). -/
def execRrcR (r : Reg8) (s : State) : Result := rotReg rrc8 r s

/-- `RRC (HL)` (R276). -/
def execRrcMHl (s : State) : Result := rotMHl rrc8 s

/-- `RRC (XY+d)` (R276). -/
def execRrcMXyd (xy : IndexReg) (d : Byte) (s : State) : Result := rotMXyd rrc8 xy d s

/-- `RRC (XY+d),r` (R276, R274). -/
def execRrcMXydR (xy : IndexReg) (d : Byte) (r : Reg8) (s : State) : Result := rotMXydR rrc8 xy d r s

/-- `RL r` (R277). -/
def execRlR (r : Reg8) (s : State) : Result := rotReg rl8 r s

/-- `RL (HL)` (R277). -/
def execRlMHl (s : State) : Result := rotMHl rl8 s

/-- `RL (XY+d)` (R277). -/
def execRlMXyd (xy : IndexReg) (d : Byte) (s : State) : Result := rotMXyd rl8 xy d s

/-- `RL (XY+d),r` (R277, R274). -/
def execRlMXydR (xy : IndexReg) (d : Byte) (r : Reg8) (s : State) : Result := rotMXydR rl8 xy d r s

/-- `RR r` (R278). -/
def execRrR (r : Reg8) (s : State) : Result := rotReg rr8 r s

/-- `RR (HL)` (R278). -/
def execRrMHl (s : State) : Result := rotMHl rr8 s

/-- `RR (XY+d)` (R278). -/
def execRrMXyd (xy : IndexReg) (d : Byte) (s : State) : Result := rotMXyd rr8 xy d s

/-- `RR (XY+d),r` (R278, R274). -/
def execRrMXydR (xy : IndexReg) (d : Byte) (r : Reg8) (s : State) : Result := rotMXydR rr8 xy d r s

/-- `SLA r` (R279). -/
def execSlaR (r : Reg8) (s : State) : Result := rotReg sla8 r s

/-- `SLA (HL)` (R279). -/
def execSlaMHl (s : State) : Result := rotMHl sla8 s

/-- `SLA (XY+d)` (R279). -/
def execSlaMXyd (xy : IndexReg) (d : Byte) (s : State) : Result := rotMXyd sla8 xy d s

/-- `SLA (XY+d),r` (R279, R274). -/
def execSlaMXydR (xy : IndexReg) (d : Byte) (r : Reg8) (s : State) : Result := rotMXydR sla8 xy d r s

/-- `SRA r` (R280). -/
def execSraR (r : Reg8) (s : State) : Result := rotReg sra8 r s

/-- `SRA (HL)` (R280). -/
def execSraMHl (s : State) : Result := rotMHl sra8 s

/-- `SRA (XY+d)` (R280). -/
def execSraMXyd (xy : IndexReg) (d : Byte) (s : State) : Result := rotMXyd sra8 xy d s

/-- `SRA (XY+d),r` (R280, R274). -/
def execSraMXydR (xy : IndexReg) (d : Byte) (r : Reg8) (s : State) : Result := rotMXydR sra8 xy d r s

/-- `SLL r` (R281). -/
def execSllR (r : Reg8) (s : State) : Result := rotReg sll8 r s

/-- `SLL (HL)` (R281). -/
def execSllMHl (s : State) : Result := rotMHl sll8 s

/-- `SLL (XY+d)` (R281). -/
def execSllMXyd (xy : IndexReg) (d : Byte) (s : State) : Result := rotMXyd sll8 xy d s

/-- `SLL (XY+d),r` (R281, R274). -/
def execSllMXydR (xy : IndexReg) (d : Byte) (r : Reg8) (s : State) : Result := rotMXydR sll8 xy d r s

/-- `SRL r` (R282). -/
def execSrlR (r : Reg8) (s : State) : Result := rotReg srl8 r s

/-- `SRL (HL)` (R282). -/
def execSrlMHl (s : State) : Result := rotMHl srl8 s

/-- `SRL (XY+d)` (R282). -/
def execSrlMXyd (xy : IndexReg) (d : Byte) (s : State) : Result := rotMXyd srl8 xy d s

/-- `SRL (XY+d),r` (R282, R274). -/
def execSrlMXydR (xy : IndexReg) (d : Byte) (r : Reg8) (s : State) : Result := rotMXydR srl8 xy d r s

/-- `RLD` (R284). -/
def execRld (s : State) : Result :=
  let p := memRead (m1 2 s) s.main.hl
  let res := joinNibbles (hiNib s.main.a) (hiNib p.1)
  let s1 := memWrite p.2 s.main.hl (joinNibbles (loNib p.1) (loNib s.main.a))
  retire 2 18 (putFlags xyMask (digitFlags res (flags s)) (setReg .a res s1))

/-- `RRD` (R285). -/
def execRrd (s : State) : Result :=
  let p := memRead (m1 2 s) s.main.hl
  let res := joinNibbles (hiNib s.main.a) (loNib p.1)
  let s1 := memWrite p.2 s.main.hl (joinNibbles (loNib s.main.a) (hiNib p.1))
  retire 2 18 (putFlags xyMask (digitFlags res (flags s)) (setReg .a res s1))

end Sys2Proof.Machine
end

