-- ==== Sys2Proof/Machine/Dispatch.lean ====
section
/-! DEFINITION. The meaning of every instruction, by constructor (60_exceptions.md R410 step 6). -/

namespace Sys2Proof.Machine

def exec (i : Instr) (s : State) : Host.Outcome State Fault Refusal :=
  match i with
  | .nop => Sys2Proof.Machine.execNop s
  | .exAfAf => Sys2Proof.Machine.execExAfAf s
  | .djnz e => Sys2Proof.Machine.execDjnz e s
  | .jr e => Sys2Proof.Machine.execJr e s
  | .jrCc cc e => Sys2Proof.Machine.execJrCc cc e s
  | .ldRrNn rr nn => Sys2Proof.Machine.execLdRrNn rr nn s
  | .addHlRr rr => Sys2Proof.Machine.execAddHlRr rr s
  | .ldMBcA => Sys2Proof.Machine.execLdMBcA s
  | .ldMDeA => Sys2Proof.Machine.execLdMDeA s
  | .ldMNnHl nn => Sys2Proof.Machine.execLdMNnHl nn s
  | .ldMNnA nn => Sys2Proof.Machine.execLdMNnA nn s
  | .ldAMBc => Sys2Proof.Machine.execLdAMBc s
  | .ldAMDe => Sys2Proof.Machine.execLdAMDe s
  | .ldHlMNn nn => Sys2Proof.Machine.execLdHlMNn nn s
  | .ldAMNn nn => Sys2Proof.Machine.execLdAMNn nn s
  | .incRr rr => Sys2Proof.Machine.execIncRr rr s
  | .decRr rr => Sys2Proof.Machine.execDecRr rr s
  | .incR r => Sys2Proof.Machine.execIncR r s
  | .incMHl => Sys2Proof.Machine.execIncMHl s
  | .decR r => Sys2Proof.Machine.execDecR r s
  | .decMHl => Sys2Proof.Machine.execDecMHl s
  | .ldRN r n => Sys2Proof.Machine.execLdRN r n s
  | .ldMHlN n => Sys2Proof.Machine.execLdMHlN n s
  | .rlca => Sys2Proof.Machine.execRlca s
  | .rrca => Sys2Proof.Machine.execRrca s
  | .rla => Sys2Proof.Machine.execRla s
  | .rra => Sys2Proof.Machine.execRra s
  | .daa => Sys2Proof.Machine.execDaa s
  | .cpl => Sys2Proof.Machine.execCpl s
  | .scf => Sys2Proof.Machine.execScf s
  | .ccf => Sys2Proof.Machine.execCcf s
  | .ldRR dst src => Sys2Proof.Machine.execLdRR dst src s
  | .ldRMHl r => Sys2Proof.Machine.execLdRMHl r s
  | .ldMHlR r => Sys2Proof.Machine.execLdMHlR r s
  | .halt => Sys2Proof.Machine.execHalt s
  | .addR r => Sys2Proof.Machine.execAddR r s
  | .addMHl => Sys2Proof.Machine.execAddMHl s
  | .addN n => Sys2Proof.Machine.execAddN n s
  | .adcR r => Sys2Proof.Machine.execAdcR r s
  | .adcMHl => Sys2Proof.Machine.execAdcMHl s
  | .adcN n => Sys2Proof.Machine.execAdcN n s
  | .subR r => Sys2Proof.Machine.execSubR r s
  | .subMHl => Sys2Proof.Machine.execSubMHl s
  | .subN n => Sys2Proof.Machine.execSubN n s
  | .sbcR r => Sys2Proof.Machine.execSbcR r s
  | .sbcMHl => Sys2Proof.Machine.execSbcMHl s
  | .sbcN n => Sys2Proof.Machine.execSbcN n s
  | .andR r => Sys2Proof.Machine.execAndR r s
  | .andMHl => Sys2Proof.Machine.execAndMHl s
  | .andN n => Sys2Proof.Machine.execAndN n s
  | .xorR r => Sys2Proof.Machine.execXorR r s
  | .xorMHl => Sys2Proof.Machine.execXorMHl s
  | .xorN n => Sys2Proof.Machine.execXorN n s
  | .orR r => Sys2Proof.Machine.execOrR r s
  | .orMHl => Sys2Proof.Machine.execOrMHl s
  | .orN n => Sys2Proof.Machine.execOrN n s
  | .cpR r => Sys2Proof.Machine.execCpR r s
  | .cpMHl => Sys2Proof.Machine.execCpMHl s
  | .cpN n => Sys2Proof.Machine.execCpN n s
  | .retCc cc => Sys2Proof.Machine.execRetCc cc s
  | .popQq qq => Sys2Proof.Machine.execPopQq qq s
  | .ret => Sys2Proof.Machine.execRet s
  | .exx => Sys2Proof.Machine.execExx s
  | .jpHl => Sys2Proof.Machine.execJpHl s
  | .ldSpHl => Sys2Proof.Machine.execLdSpHl s
  | .jpCc cc nn => Sys2Proof.Machine.execJpCc cc nn s
  | .jp nn => Sys2Proof.Machine.execJp nn s
  | .outNA n => Sys2Proof.Machine.execOutNA n s
  | .inAN n => Sys2Proof.Machine.execInAN n s
  | .exMSpHl => Sys2Proof.Machine.execExMSpHl s
  | .exDeHl => Sys2Proof.Machine.execExDeHl s
  | .di => Sys2Proof.Machine.execDi s
  | .ei => Sys2Proof.Machine.execEi s
  | .callCc cc nn => Sys2Proof.Machine.execCallCc cc nn s
  | .pushQq qq => Sys2Proof.Machine.execPushQq qq s
  | .call nn => Sys2Proof.Machine.execCall nn s
  | .rst t => Sys2Proof.Machine.execRst t s
  | .rlcR r => Sys2Proof.Machine.execRlcR r s
  | .rlcMHl => Sys2Proof.Machine.execRlcMHl s
  | .rrcR r => Sys2Proof.Machine.execRrcR r s
  | .rrcMHl => Sys2Proof.Machine.execRrcMHl s
  | .rlR r => Sys2Proof.Machine.execRlR r s
  | .rlMHl => Sys2Proof.Machine.execRlMHl s
  | .rrR r => Sys2Proof.Machine.execRrR r s
  | .rrMHl => Sys2Proof.Machine.execRrMHl s
  | .slaR r => Sys2Proof.Machine.execSlaR r s
  | .slaMHl => Sys2Proof.Machine.execSlaMHl s
  | .sraR r => Sys2Proof.Machine.execSraR r s
  | .sraMHl => Sys2Proof.Machine.execSraMHl s
  | .sllR r => Sys2Proof.Machine.execSllR r s
  | .sllMHl => Sys2Proof.Machine.execSllMHl s
  | .srlR r => Sys2Proof.Machine.execSrlR r s
  | .srlMHl => Sys2Proof.Machine.execSrlMHl s
  | .bitR b r => Sys2Proof.Machine.execBitR b r s
  | .bitMHl b => Sys2Proof.Machine.execBitMHl b s
  | .resR b r => Sys2Proof.Machine.execResR b r s
  | .resMHl b => Sys2Proof.Machine.execResMHl b s
  | .setR b r => Sys2Proof.Machine.execSetR b r s
  | .setMHl b => Sys2Proof.Machine.execSetMHl b s
  | .inRC r => Sys2Proof.Machine.execInRC r s
  | .inFC => Sys2Proof.Machine.execInFC s
  | .outCR r => Sys2Proof.Machine.execOutCR r s
  | .outC0 => Sys2Proof.Machine.execOutC0 s
  | .sbcHlRr rr => Sys2Proof.Machine.execSbcHlRr rr s
  | .adcHlRr rr => Sys2Proof.Machine.execAdcHlRr rr s
  | .ldMNnRr rr nn => Sys2Proof.Machine.execLdMNnRr rr nn s
  | .ldRrMNn rr nn => Sys2Proof.Machine.execLdRrMNn rr nn s
  | .neg => Sys2Proof.Machine.execNeg s
  | .negAlias y => Sys2Proof.Machine.execNegAlias y s
  | .retn => Sys2Proof.Machine.execRetn s
  | .reti => Sys2Proof.Machine.execReti s
  | .retnAlias y => Sys2Proof.Machine.execRetnAlias y s
  | .im0 => Sys2Proof.Machine.execIm0 s
  | .im1 => Sys2Proof.Machine.execIm1 s
  | .im2 => Sys2Proof.Machine.execIm2 s
  | .imAlias y => Sys2Proof.Machine.execImAlias y s
  | .ldIA => Sys2Proof.Machine.execLdIA s
  | .ldRA => Sys2Proof.Machine.execLdRA s
  | .ldAI => Sys2Proof.Machine.execLdAI s
  | .ldAR => Sys2Proof.Machine.execLdAR s
  | .rrd => Sys2Proof.Machine.execRrd s
  | .rld => Sys2Proof.Machine.execRld s
  | .nopEd77 q => Sys2Proof.Machine.execNopEd77 q s
  | .ldi => Sys2Proof.Machine.execLdi s
  | .cpi => Sys2Proof.Machine.execCpi s
  | .ini => Sys2Proof.Machine.execIni s
  | .outi => Sys2Proof.Machine.execOuti s
  | .ldd => Sys2Proof.Machine.execLdd s
  | .cpd => Sys2Proof.Machine.execCpd s
  | .ind => Sys2Proof.Machine.execInd s
  | .outd => Sys2Proof.Machine.execOutd s
  | .ldir => Sys2Proof.Machine.execLdir s
  | .cpir => Sys2Proof.Machine.execCpir s
  | .inir => Sys2Proof.Machine.execInir s
  | .otir => Sys2Proof.Machine.execOtir s
  | .lddr => Sys2Proof.Machine.execLddr s
  | .cpdr => Sys2Proof.Machine.execCpdr s
  | .indr => Sys2Proof.Machine.execIndr s
  | .otdr => Sys2Proof.Machine.execOtdr s
  | .nopEdX0 y z => Sys2Proof.Machine.execNopEdX0 y z s
  | .nopEdX3 y z => Sys2Proof.Machine.execNopEdX3 y z s
  | .nopEd80 p z => Sys2Proof.Machine.execNopEd80 p z s
  | .nopEdA4 p w => Sys2Proof.Machine.execNopEdA4 p w s
  | .addXyRr xy pp => Sys2Proof.Machine.execAddXyRr xy pp s
  | .ldXyNn xy nn => Sys2Proof.Machine.execLdXyNn xy nn s
  | .ldMNnXy xy nn => Sys2Proof.Machine.execLdMNnXy xy nn s
  | .ldXyMNn xy nn => Sys2Proof.Machine.execLdXyMNn xy nn s
  | .incXy xy => Sys2Proof.Machine.execIncXy xy s
  | .decXy xy => Sys2Proof.Machine.execDecXy xy s
  | .incMXyd xy d => Sys2Proof.Machine.execIncMXyd xy d s
  | .decMXyd xy d => Sys2Proof.Machine.execDecMXyd xy d s
  | .ldMXydN xy d n => Sys2Proof.Machine.execLdMXydN xy d n s
  | .ldRMXyd r xy d => Sys2Proof.Machine.execLdRMXyd r xy d s
  | .ldMXydR xy d r => Sys2Proof.Machine.execLdMXydR xy d r s
  | .addMXyd xy d => Sys2Proof.Machine.execAddMXyd xy d s
  | .adcMXyd xy d => Sys2Proof.Machine.execAdcMXyd xy d s
  | .subMXyd xy d => Sys2Proof.Machine.execSubMXyd xy d s
  | .sbcMXyd xy d => Sys2Proof.Machine.execSbcMXyd xy d s
  | .andMXyd xy d => Sys2Proof.Machine.execAndMXyd xy d s
  | .xorMXyd xy d => Sys2Proof.Machine.execXorMXyd xy d s
  | .orMXyd xy d => Sys2Proof.Machine.execOrMXyd xy d s
  | .cpMXyd xy d => Sys2Proof.Machine.execCpMXyd xy d s
  | .popXy xy => Sys2Proof.Machine.execPopXy xy s
  | .exMSpXy xy => Sys2Proof.Machine.execExMSpXy xy s
  | .pushXy xy => Sys2Proof.Machine.execPushXy xy s
  | .jpXy xy => Sys2Proof.Machine.execJpXy xy s
  | .ldSpXy xy => Sys2Proof.Machine.execLdSpXy xy s
  | .incXyh xy h => Sys2Proof.Machine.execIncXyh xy h s
  | .decXyh xy h => Sys2Proof.Machine.execDecXyh xy h s
  | .ldXyhN xy h n => Sys2Proof.Machine.execLdXyhN xy h n s
  | .ldRRXyh xy dst src => Sys2Proof.Machine.execLdRRXyh xy dst src s
  | .addXyh xy h => Sys2Proof.Machine.execAddXyh xy h s
  | .adcXyh xy h => Sys2Proof.Machine.execAdcXyh xy h s
  | .subXyh xy h => Sys2Proof.Machine.execSubXyh xy h s
  | .sbcXyh xy h => Sys2Proof.Machine.execSbcXyh xy h s
  | .andXyh xy h => Sys2Proof.Machine.execAndXyh xy h s
  | .xorXyh xy h => Sys2Proof.Machine.execXorXyh xy h s
  | .orXyh xy h => Sys2Proof.Machine.execOrXyh xy h s
  | .cpXyh xy h => Sys2Proof.Machine.execCpXyh xy h s
  | .ignoredIndexPrefix xy => Sys2Proof.Machine.execIgnoredIndexPrefix xy s
  | .rlcMXyd xy d => Sys2Proof.Machine.execRlcMXyd xy d s
  | .rlcMXydR xy d r => Sys2Proof.Machine.execRlcMXydR xy d r s
  | .rrcMXyd xy d => Sys2Proof.Machine.execRrcMXyd xy d s
  | .rrcMXydR xy d r => Sys2Proof.Machine.execRrcMXydR xy d r s
  | .rlMXyd xy d => Sys2Proof.Machine.execRlMXyd xy d s
  | .rlMXydR xy d r => Sys2Proof.Machine.execRlMXydR xy d r s
  | .rrMXyd xy d => Sys2Proof.Machine.execRrMXyd xy d s
  | .rrMXydR xy d r => Sys2Proof.Machine.execRrMXydR xy d r s
  | .slaMXyd xy d => Sys2Proof.Machine.execSlaMXyd xy d s
  | .slaMXydR xy d r => Sys2Proof.Machine.execSlaMXydR xy d r s
  | .sraMXyd xy d => Sys2Proof.Machine.execSraMXyd xy d s
  | .sraMXydR xy d r => Sys2Proof.Machine.execSraMXydR xy d r s
  | .sllMXyd xy d => Sys2Proof.Machine.execSllMXyd xy d s
  | .sllMXydR xy d r => Sys2Proof.Machine.execSllMXydR xy d r s
  | .srlMXyd xy d => Sys2Proof.Machine.execSrlMXyd xy d s
  | .srlMXydR xy d r => Sys2Proof.Machine.execSrlMXydR xy d r s
  | .bitMXyd xy d b => Sys2Proof.Machine.execBitMXyd xy d b s
  | .bitMXydAlias xy d b r => Sys2Proof.Machine.execBitMXydAlias xy d b r s
  | .resMXyd xy d b => Sys2Proof.Machine.execResMXyd xy d b s
  | .resMXydR xy d b r => Sys2Proof.Machine.execResMXydR xy d b r s
  | .setMXyd xy d b => Sys2Proof.Machine.execSetMXyd xy d b s
  | .setMXydR xy d b r => Sys2Proof.Machine.execSetMXydR xy d b r s

end Sys2Proof.Machine
end

