-- ==== Sys2Proof/Machine/Fetch.lean ====
section
/-! DEFINITION. Fetching the bytes of the instruction at PC, in the order of the decode procedure (30_encoding.md R106). -/

namespace Sys2Proof.Machine

/-- What a fetch answers: the bytes read (0 for each byte the instruction does not have) and the state after the reads. -/
structure Fetched where
  b0 : Byte
  b1 : Byte
  b2 : Byte
  b3 : Byte
  state : State
  deriving DecidableEq, Repr

/-- Fetch the bytes after a prefix byte: the second byte always, the others as the instruction's length asks (R104, R106). -/
def fetchPrefixed (b0 : Byte) (pc : Word) (s : State) : Fetched :=
  let p1 := memRead s (pc + 1#16)
  match bytesRead b0 p1.1 with
  | 0 | 1 | 2 => ⟨b0, p1.1, 0#8, 0#8, p1.2⟩
  | 3 =>
    let p2 := memRead p1.2 (pc + 2#16)
    ⟨b0, p1.1, p2.1, 0#8, p2.2⟩
  | _ =>
    let p2 := memRead p1.2 (pc + 2#16)
    let p3 := memRead p2.2 (pc + 3#16)
    ⟨b0, p1.1, p2.1, p3.1, p3.2⟩

/-- Fetch the operand bytes of an unprefixed instruction (R100, R106). -/
def fetchPlain (b0 : Byte) (pc : Word) (s : State) : Fetched :=
  match bytesRead b0 0#8 with
  | 0 | 1 => ⟨b0, 0#8, 0#8, 0#8, s⟩
  | 2 =>
    let p1 := memRead s (pc + 1#16)
    ⟨b0, p1.1, 0#8, 0#8, p1.2⟩
  | _ =>
    let p1 := memRead s (pc + 1#16)
    let p2 := memRead p1.2 (pc + 2#16)
    ⟨b0, p1.1, p2.1, 0#8, p2.2⟩

/-- Fetch the instruction at PC (R106, R25: addresses wrap). -/
def fetch (s : State) : Fetched :=
  let p0 := memRead s s.pc
  if isPrefixByte p0.1 then fetchPrefixed p0.1 s.pc p0.2 else fetchPlain p0.1 s.pc p0.2

/-- The instruction a fetch found. -/
def Fetched.instr (f : Fetched) : Instr := decodeBytes f.b0 f.b1 f.b2 f.b3

/-- Has an instruction a handler? Every encoding but the undocumented ones under `UNDOC_OPS` = fault (R107, R401). -/
def hasHandler (i : Instr) (s : State) : Bool :=
  i.documented || s.params.undocOps == .execute

end Sys2Proof.Machine
end

