-- ==== Sys2Proof/Machine/Cycle.lean ====
section
/-! DEFINITION. One transition of the core (60_exceptions.md R410 to R413). -/

namespace Sys2Proof.Machine

/-- Is an NMI accepted at this boundary? (R410 step 1, R411, R41) -/
def nmiDue (s : State) : Bool := !s.afterPrefix && s.nmiPending

/-- Is the maskable interrupt accepted at this boundary, no NMI being due? (R410 step 2, R411, R413, R420) -/
def maskableDue (s : State) : Bool := !s.afterPrefix && s.intLine && s.iff1 && !s.eiInhibit

/-- Step 3 of R410: the hidden bits are cleared, and the record of accesses starts anew (log 7). -/
def passBoundary (s : State) : State := { s with eiInhibit := false, afterPrefix := false, calls := [] }

/-- Steps 4 to 8 of R410: decode the instruction at PC, raise DecodeError when it has no handler, else execute it. -/
def fetchAndExecute (s : State) : Result :=
  let f := fetch s
  if hasHandler f.instr s then exec f.instr f.state
  else .next (raiseDecodeError (faultBytes f.b0 f.b1 f.b2 f.b3) f.state)

/-- The step of R410 on a state that has one. -/
def boundaryStep (s : State) : Result :=
  if nmiDue s then .next (acceptNmi { s with calls := [] })
  else if maskableDue s then .next (acceptMaskable { s with calls := [] })
  else if s.halted then .next (idleStep (passBoundary s))
  else fetchAndExecute (passBoundary s)

/-- One transition: none on a faulted state (R37, R400), none under `ARCH` = I8080 (R3, R112). -/
def cycle (s : State) : Result :=
  match s.params.arch with
  | .i8080 => .refused .archI8080
  | .z80 =>
    match s.fault with
    | some k => .fault (.coreFaulted k)
    | none => boundaryStep s

end Sys2Proof.Machine
end

