-- ==== Sys2Proof/Machine/Step.lean ====
section
/-! DEFINITION. The step of the machine, and the placing of one instruction where the step fetches next. -/

namespace Sys2Proof.Machine

/-- One step (60_exceptions.md R410). -/
def step (s : State) : Result := cycle s

/-- The state with four bytes stored from PC up. -/
def State.withBytesAtPc (s : State) (b0 b1 b2 b3 : Byte) : State :=
  { s with
    mem :=
      ((((s.mem.write s.pc.toNat b0).write (s.pc + 1#16).toNat b1).write (s.pc + 2#16).toNat b2).write
        (s.pc + 3#16).toNat b3) }

/-- Does a region take the reads of one of the four addresses from `pc` up away from the array's own bytes there? -/
def shadowsFetch (pc : Word) (g : Config.Region) : Bool :=
  g.load != .array g.base &&
    (decide (g.base ≤ pc.toNat ∧ pc.toNat < g.base + g.size) ||
      decide (g.base ≤ (pc + 1#16).toNat ∧ (pc + 1#16).toNat < g.base + g.size) ||
      decide (g.base ≤ (pc + 2#16).toNat ∧ (pc + 2#16).toNat < g.base + g.size) ||
      decide (g.base ≤ (pc + 3#16).toNat ∧ (pc + 3#16).toNat < g.base + g.size))

/-- `s` with the instruction numbered `w` (as the opcode table numbers its `nbits` bits) stored at PC, ready to be fetched
and run by the very next step: no interrupt is due, the core is neither faulted nor halted, the array answers the fetch, and
an undocumented instruction has its handler (log 13). -/
def State.withFetchWord (s : State) (nbits w : Nat) : State :=
  let b0 := tableByte nbits w 0
  let b1 := tableByte nbits w 1
  let b2 := tableByte nbits w 2
  let b3 := tableByte nbits w 3
  let ops := if (decodeBytes b0 b1 b2 b3).documented then s.params.undocOps else .execute
  { s.withBytesAtPc b0 b1 b2 b3 with
    fault := none
    halted := false
    nmiPending := false
    intLine := false
    params :=
      { s.params with arch := .z80, undocOps := ops, mapper := s.params.mapper.filter fun g => !shadowsFetch s.pc g } }

end Sys2Proof.Machine
end

