-- ==== Sys2Proof/Machine/HostInterface.lean ====
section
/-! DEFINITION. What the host may do to the core at an instruction boundary (60_exceptions.md R440, R441): reset
(70_reset_and_hazards.md R450, R451), the interrupt inputs, reads and writes of registers and memory, the loader (R455), the
conformance patch (R457) and the frame boundary (R473). None of it happens inside a step (00_scope.md R19; log 16). -/

namespace Sys2Proof.Machine

/-- A register set of eight free values, the `k`-th to the `k + 7`-th drawn. -/
def Regs.drawn (k : Nat) : Regs where
  a := Config.freeByte k
  f := Config.freeByte (k + 1)
  b := Config.freeByte (k + 2)
  c := Config.freeByte (k + 3)
  d := Config.freeByte (k + 4)
  e := Config.freeByte (k + 5)
  h := Config.freeByte (k + 6)
  l := Config.freeByte (k + 7)

/-- A word of two free values. -/
def drawnWord (k : Nat) : Word := joinBytes (Config.freeByte k) (Config.freeByte (k + 1))

/-- The part of a reset that does not depend on `RESET_REGS` (R40, R450, R451): memory, `int_line`, `int_data` and the
parameters stay. The record of accesses is emptied and the status is Normal; the host's pending replies stay (log 15). -/
def resetControl (s : State) : State :=
  { s with
    pc := 0#16
    i := 0#8
    r := 0#8
    iff1 := false
    iff2 := false
    im := .im0
    nmiPending := false
    eiInhibit := false
    afterPrefix := false
    halted := false
    cycles := 0
    fault := none
    status := .normal
    calls := [] }

/-- `reset()` (R450, R451): allowed on any state. -/
def hostReset (s : State) : State :=
  match s.params.resetRegs with
  | .fixed =>
    { resetControl s with
      main := Regs.atReset
      alt := Regs.zero
      ix := 0#16
      iy := 0#16
      sp := 0xFFFF#16 }
  | .draw =>
    { resetControl s with
      main := Regs.drawn s.draws
      alt := Regs.drawn (s.draws + 8)
      ix := drawnWord (s.draws + 16)
      iy := drawnWord (s.draws + 18)
      sp := drawnWord (s.draws + 20)
      draws := s.draws + 22 }

/-- `set_int(level, byte)` (R440). -/
def setInt (level : Bool) (byte : Byte) (s : State) : State := { s with intLine := level, intData := byte }

/-- `raise_nmi()` (R440): the latch of R33. -/
def raiseNmi (s : State) : State := { s with nmiPending := true }

/-- `read_cycles()` (R440). -/
def readCycles (s : State) : Nat := s.cycles

/-- `write_state` of a memory byte at a boundary (R75, R440). It writes the flat array's own cell, past any region of the
mapper. DESIGN CHOICE (log 19). -/
def poke (a : Word) (v : Byte) (s : State) : State := { s with mem := s.mem.write a.toNat v }

/-- `write_state` of a register of the main set (R440). -/
def hostSetReg (r : Reg8) (v : Byte) (s : State) : State := setReg r v s

/-- `write_state` of the flags (R440). -/
def hostSetFlags (v : Byte) (s : State) : State := { s with main := { s.main with f := v } }

/-- `write_state` of a pair or of SP (R440). -/
def hostSetPair (rr : RegPair) (w : Word) (s : State) : State := setPair rr w s

/-- `write_state` of the shadow set (R440). -/
def hostSetShadow (g : Regs) (s : State) : State := { s with alt := g }

/-- `write_state` of an index register (R440). -/
def hostSetXy (xy : IndexReg) (w : Word) (s : State) : State := setXy xy w s

/-- `write_state` of PC (R440, R452). -/
def hostSetPc (w : Word) (s : State) : State := { s with pc := w }

/-- `write_state` of I and R (R440). -/
def hostSetIR (i r : Byte) (s : State) : State := { s with i := i, r := r }

/-- `write_state` of IFF1, IFF2 and IM (R440). -/
def hostSetInterruptState (iff1 iff2 : Bool) (im : IntMode) (s : State) : State :=
  { s with iff1 := iff1, iff2 := iff2, im := im }

/-- The bytes the host will hand over to the coming port reads and the memory reads the mapper leaves to it (R440
callbacks; log 6). -/
def hostQueue (replies : List Byte) (s : State) : State := { s with hostReplies := s.hostReplies ++ replies }

/-- The loader: an image at consecutive addresses from a base (R455), modulo 65536. R455 lets it write through the memory
interface or the flat array; it writes the flat array. DESIGN CHOICE (log 19). -/
def loadImage : List Byte → Word → State → State
  | [], _, s => s
  | v :: rest, base, s => loadImage rest (base + 1#16) (poke base v s)

/-- The CP/M trap bytes of the conformance harness and its entry point (R457): OUT at 0, IN at 5, RET at 7, PC at 0x0100;
the two port bytes are the host's. The bytes go to the flat array. DESIGN CHOICE (log 19). -/
def patchConformance (outPort inPort : Byte) (s : State) : State :=
  hostSetPc 0x0100#16
    (poke 7#16 0xC9#8 (poke 6#16 inPort (poke 5#16 0xDB#8 (poke 1#16 outPort (poke 0#16 0xD3#8 s)))))

/-- Has the host's cycle count since `start` reached a frame boundary? (R441, R473; `FRAME_CYCLES` may be any number.) -/
def frameDue (start : Nat) (s : State) : Bool := decide (start + s.params.frameCycles ≤ s.cycles)

end Sys2Proof.Machine
end

