-- ==== Sys2Proof/Safety.lean ====
section
/-! DEFINITION. Runs, their ends, and the invariant claims are stated with (60_exceptions.md R400, R403, R442). -/

namespace Sys2Proof.Machine

/-- The state can take a step: it is not faulted, and its architecture is the one this model has (R37, R3). -/
def Steppable (s : State) : Prop := s.fault = none ∧ s.params.arch = .z80

/-- A faulted end (R442 case a): no claim may treat it as success. -/
def FaultedEnd (s : State) : Prop := s.fault ≠ none

/-- A halted end (R442 case b): the host may stop here; the state stays steppable (R403). -/
def HaltedEnd (s : State) : Prop := s.status = .halted

/-- `k` steps of the core with no host action between them lead from one state to another. -/
inductive Reaches : Nat → State → State → Prop where
  | zero (s : State) : Reaches 0 s s
  | succ {k : Nat} {s t u : State} (h : Reaches k s t) (hs : step t = .next u) : Reaches (k + 1) s u

/-- A run is safe when no state it reaches is faulted. -/
def SafeFrom (s : State) : Prop := ∀ k t, Reaches k s t → t.fault = none

/-- What every step keeps: the canonical form of memory (R60); IFF1 set only with IFF2, which every writer of R31 respects;
the one-boundary bits of R34 and R41 exclude each other and a halt, and the EI inhibit stands only with interrupts enabled
(R247); the status agrees with the fault report (R400). -/
structure Inv (s : State) : Prop where
  mem : s.mem.wf = true
  iff : s.iff1 = true → s.iff2 = true
  inhibit : s.eiInhibit = true → s.iff1 = true ∧ s.afterPrefix = false ∧ s.halted = false
  afterPrefix : s.afterPrefix = true → s.halted = false
  status : s.status = .fault ↔ s.fault ≠ none

end Sys2Proof.Machine
end

