-- ==== Sys2Proof/Certificates/Slice0/Obligations.lean ====
section
/-! DEFINITION. The vocabulary the statements are written in: what an instruction changes and what it leaves, what it stores,
which flags it sets, and the flag formulas of the rules written out once more, over unsigned and signed integers, so that a
statement compares the model's computation with the rule's text. -/

namespace Sys2Proof.Claims

open Machine

/-! ### Frames -/

/-- The fields of the state an instruction may or may not change, but for PC, R, the cycle count and the status, which every
instruction changes (`Ended`). -/
inductive Field where
  | main | alt | ix | iy | sp | i | iff1 | iff2 | im | intLine | intData | nmiPending | eiInhibit | afterPrefix | halted
  | fault | mem | params | hostReplies | calls | draws
  deriving DecidableEq, Repr

/-- A field has the same value in two states. Memory is compared byte by byte, as it is read. -/
def Field.same (s u : State) : Field → Prop
  | .main => u.main = s.main
  | .alt => u.alt = s.alt
  | .ix => u.ix = s.ix
  | .iy => u.iy = s.iy
  | .sp => u.sp = s.sp
  | .i => u.i = s.i
  | .iff1 => u.iff1 = s.iff1
  | .iff2 => u.iff2 = s.iff2
  | .im => u.im = s.im
  | .intLine => u.intLine = s.intLine
  | .intData => u.intData = s.intData
  | .nmiPending => u.nmiPending = s.nmiPending
  | .eiInhibit => u.eiInhibit = s.eiInhibit
  | .afterPrefix => u.afterPrefix = s.afterPrefix
  | .halted => u.halted = s.halted
  | .fault => u.fault = s.fault
  | .mem => ∀ a, peek u a = peek s a
  | .params => u.params = s.params
  | .hostReplies => u.hostReplies = s.hostReplies
  | .calls => u.calls = s.calls
  | .draws => u.draws = s.draws

/-- Every field but those listed is unchanged. -/
def Except (changed : List Field) (s u : State) : Prop := ∀ f, f ∉ changed → f.same s u

/-- Every register of the main set but those listed, and F apart, is unchanged. -/
def RegsExcept (changed : List Reg8) (s u : State) : Prop := ∀ q, q ∉ changed → u.main.get q = s.main.get q

/-- F is unchanged, every bit of it. -/
def NoFlags (s u : State) : Prop := u.main.f = s.main.f

/-- `k` M1 fetches: the low seven bits of R count modulo 128, bit 7 stays (R30). -/
def Counted (k : Nat) (s u : State) : Prop :=
  u.r.toNat % 128 = (s.r.toNat % 128 + k) % 128 ∧ u.r.getLsbD 7 = s.r.getLsbD 7

/-- The end of an instruction: where PC stands, how many M1 fetches R counted, how many T-states were charged; the status is
Normal (R14, R25, R30, R470). -/
def Ended (pc : Word) (fetches t : Nat) (s u : State) : Prop :=
  u.pc = pc ∧ Counted fetches s u ∧ u.cycles = s.cycles + t ∧ u.status = .normal

/-- A row of the opcode table: the bytes, from the lowest address up, the length, and whether it always has a handler or only
under `UNDOC_OPS` = execute (R107, R401). -/
def Row (i : Instr) (documented : Bool) (bytes : List Byte) : Prop :=
  encode i = bytes ∧ i.length = bytes.length ∧
    ∀ s : State, hasHandler i s = (documented || s.params.undocOps == .execute)

/-- The pattern `xxyyyzzz` of an opcode byte (R92). -/
def op (x : BitVec 2) (y z : BitVec 3) : Byte := x ++ y ++ z

/-- The pattern `xxppqzzz` of an opcode byte (R92). -/
def opQ (x p : BitVec 2) (q : BitVec 1) (z : BitVec 3) : Byte := x ++ p ++ q ++ z

/-- The index prefix `11x11101`: 0xDD for IX, 0xFD for IY (R92). -/
def pre (xy : IndexReg) : Byte :=
  match xy with
  | .ix => 0b11011101#8
  | .iy => 0b11111101#8

/-- The code of an index half: 4 for XYH, 5 for XYL (R94). -/
def halfBits (h : Half) : BitVec 3 :=
  match h with
  | .high => 0b100#3
  | .low => 0b101#3

/-- The bytes that R103 gives an index meaning after 0xDD or 0xFD: the documented forms, 0xCB, and the starred forms. -/
def hasIndexMeaning (b : Byte) : Bool :=
  [0x09, 0x19, 0x29, 0x39, 0x21, 0x22, 0x23, 0x2A, 0x2B, 0x34, 0x35, 0x36, 0x46, 0x4E, 0x56, 0x5E, 0x66, 0x6E, 0x7E,
      0x70, 0x71, 0x72, 0x73, 0x74, 0x75, 0x77, 0x86, 0x8E, 0x96, 0x9E, 0xA6, 0xAE, 0xB6, 0xBE, 0xE1, 0xE3, 0xE5, 0xE9,
      0xF9].contains b.toNat ||
    b == 0xCB#8 ||
    [0x24, 0x25, 0x26, 0x2C, 0x2D, 0x2E, 0x44, 0x45, 0x4C, 0x4D, 0x54, 0x55, 0x5C, 0x5D, 0x60, 0x61, 0x62, 0x63, 0x64,
      0x65, 0x67, 0x68, 0x69, 0x6A, 0x6B, 0x6C, 0x6D, 0x6F, 0x7C, 0x7D, 0x84, 0x85, 0x8C, 0x8D, 0x94, 0x95, 0x9C, 0x9D,
      0xA4, 0xA5, 0xAC, 0xAD, 0xB4, 0xB5, 0xBC, 0xBD].contains b.toNat

/-! ### Stores -/

/-- Exactly one byte is stored at the address `a`: the cell of the array that the mapper gives `a` (`a` itself where no region
intercepts it) reads as the byte, every other cell as before, and where the host takes the write every cell (R61; the form of
the mapper is the model's, log 10). The host sees that one write (R67; the record of accesses is the model's, log 7). -/
def Stores1 (a : Word) (v : Byte) (s u : State) : Prop :=
  u.calls = s.calls ++ [.memWrite a v] ∧
    ∀ c, peek u c = if storeCell s.params.mapper a = some c then v else peek s c

/-- Exactly two bytes are stored, at `a` and then at `b`; one cell given to both addresses keeps the second. -/
def Stores2 (a : Word) (v : Byte) (b : Word) (w : Byte) (s u : State) : Prop :=
  u.calls = s.calls ++ [.memWrite a v, .memWrite b w] ∧
    ∀ c, peek u c =
      if storeCell s.params.mapper b = some c then w
      else if storeCell s.params.mapper a = some c then v else peek s c

/-- Reads and writes of the address `a` both reach the cell `c` of the array; with no mapper that cell is `a` (R61, D21). -/
def ReachesCell (s : State) (a c : Word) : Prop :=
  loadCell s.params.mapper a = some c ∧ storeCell s.params.mapper a = some c

/-- A word is pushed: the high byte to SP - 1, then the low byte to SP - 2, and SP decreases by 2 (R13). -/
def Pushes (v : Word) (s u : State) : Prop :=
  Stores2 (s.sp - 1#16) (hiByte v) (s.sp - 2#16) (loByte v) s u ∧ u.sp = s.sp - 2#16

/-! ### Flags -/

/-- F holds the given bits. The bits of `mask` are the ones the rule marks undocumented: under `UNDOC_FLAGS` = any they are
free and one free value is drawn (R8, D19; the count of draws is the model's, log 5). -/
def FlagsAre (mask : Byte) (b : FlagBits) (s u : State) : Prop :=
  (s.params.undocFlags = .exact → u.main.f = b.toByte ∧ u.draws = s.draws) ∧
    (s.params.undocFlags = .any →
      (∀ k, k < 8 → mask.getLsbD k = false → u.main.f.getLsbD k = b.toByte.getLsbD k) ∧ u.draws = s.draws + 1)

/-- The bits outside `mask` are the given ones; those of `mask` are free in both modes (R291). -/
def FlagsFree (mask : Byte) (b : FlagBits) (s u : State) : Prop :=
  (∀ k, k < 8 → mask.getLsbD k = false → u.main.f.getLsbD k = b.toByte.getLsbD k) ∧ u.draws = s.draws + 1

/-- The carry flag as a number. -/
def carry (s : State) : Nat := (s.main.f.getLsbD 0).toNat

/-- `add8(a, s, c)` as R210 writes it, with the overflow in the source's form `(~(a ^ s) & (a ^ res))[7]`. -/
def ruleAdd8 (a v : Byte) (c : Nat) : Byte × FlagBits :=
  let res := BitVec.ofNat 8 ((a.toNat + v.toNat + c) % 256)
  (res,
    { s := res.getLsbD 7
      z := decide (res.toNat = 0)
      f5 := res.getLsbD 5
      h := decide (15 < a.toNat % 16 + v.toNat % 16 + c)
      f3 := res.getLsbD 3
      pv := (~~~(a ^^^ v) &&& (a ^^^ res)).getLsbD 7
      n := false
      c := decide (255 < a.toNat + v.toNat + c) })

/-- `sub8(a, s, c)` as R211 writes it, with the overflow in the form `((a ^ s) & (a ^ res))[7]`. -/
def ruleSub8 (xy : Config.XySub) (a v : Byte) (c : Nat) : Byte × FlagBits :=
  let res := a - v - BitVec.ofNat 8 c
  (res,
    { s := res.getLsbD 7
      z := decide (res.toNat = 0)
      f5 := if xy = .operand then v.getLsbD 5 else res.getLsbD 5
      h := decide (a.toNat % 16 < v.toNat % 16 + c)
      f3 := if xy = .operand then v.getLsbD 3 else res.getLsbD 3
      pv := ((a ^^^ v) &&& (a ^^^ res)).getLsbD 7
      n := true
      c := decide (a.toNat < v.toNat + c) })

/-- An even number of 1 bits (R9). -/
def ruleParity (v : Byte) : Bool := ((List.range 8).countP fun k => v.getLsbD k) % 2 == 0

/-- `logic(res, h)` as R212 writes it. -/
def ruleLogic (res : Byte) (h : Bool) : FlagBits where
  s := res.getLsbD 7
  z := decide (res.toNat = 0)
  f5 := res.getLsbD 5
  h := h
  f3 := res.getLsbD 3
  pv := ruleParity res
  n := false
  c := false

/-- The new A and flags of the eight operations by their code (R98, R214 to R221). -/
def ruleAlu (y : Code3) (xy : Config.XySub) (a v : Byte) (c : Nat) : Byte × FlagBits :=
  match y with
  | .k0 => ruleAdd8 a v 0
  | .k1 => ruleAdd8 a v c
  | .k2 => ruleSub8 xy a v 0
  | .k3 => ruleSub8 xy a v c
  | .k4 => (a &&& v, ruleLogic (a &&& v) true)
  | .k5 => (a ^^^ v, ruleLogic (a ^^^ v) false)
  | .k6 => (a ||| v, ruleLogic (a ||| v) false)
  | .k7 => (a, (ruleSub8 .operand a v 0).2)

/-- What one of the eight operations does to A and F with the operand `v`; `b` is the state after the operand was read. -/
def AluEffect (y : Code3) (v : Byte) (b u : State) : Prop :=
  u.main.a = (ruleAlu y b.params.xySub b.main.a v (carry b)).1 ∧
    FlagsAre 0x28#8 (ruleAlu y b.params.xySub b.main.a v (carry b)).2 b u ∧ RegsExcept [.a] b u

/-- INC as R222 writes it. -/
def ruleInc (v : Byte) (old : FlagBits) : Byte × FlagBits :=
  let res := BitVec.ofNat 8 ((v.toNat + 1) % 256)
  (res, ⟨res.getLsbD 7, decide (res.toNat = 0), res.getLsbD 5, decide (v.toNat % 16 = 15), res.getLsbD 3,
    decide (v.toNat = 127), false, old.c⟩)

/-- DEC as R225 writes it. -/
def ruleDec (v : Byte) (old : FlagBits) : Byte × FlagBits :=
  let res := BitVec.ofNat 8 ((v.toNat + 255) % 256)
  (res, ⟨res.getLsbD 7, decide (res.toNat = 0), res.getLsbD 5, decide (v.toNat % 16 = 0), res.getLsbD 3,
    decide (v.toNat = 128), true, old.c⟩)

/-- INC and DEC told apart. -/
def ruleStep (up : Bool) (v : Byte) (old : FlagBits) : Byte × FlagBits := if up then ruleInc v old else ruleDec v old

/-- DAA's correction byte as R240's pseudocode builds it. -/
def ruleDaaT (a : Byte) (old : FlagBits) : Nat :=
  (if old.h = true ∨ a.toNat % 16 > 9 then 6 else 0) + (if old.c = true ∨ a.toNat > 0x99 then 0x60 else 0)

/-- DAA as R240 writes it. -/
def ruleDaa (a : Byte) (old : FlagBits) : Byte × FlagBits :=
  let t := ruleDaaT a old
  let res := BitVec.ofNat 8 ((if old.n then a.toNat + 256 - t else a.toNat + t) % 256)
  (res,
    { s := res.getLsbD 7
      z := decide (res.toNat = 0)
      f5 := res.getLsbD 5
      h := if old.n then decide (old.h = true ∧ a.toNat % 16 < 6) else decide (a.toNat % 16 > 9)
      f3 := res.getLsbD 3
      pv := ruleParity res
      n := old.n
      c := decide (old.c = true ∨ a.toNat > 0x99) })

/-- `ADD HL,rr` as R260 writes it. -/
def ruleAdd16 (a v : Word) (old : FlagBits) : Word × FlagBits :=
  let res := BitVec.ofNat 16 ((a.toNat + v.toNat) % 65536)
  (res, ⟨old.s, old.z, res.getLsbD 13, decide (0xFFF < a.toNat % 4096 + v.toNat % 4096), res.getLsbD 11, old.pv, false,
    decide (0xFFFF < a.toNat + v.toNat)⟩)

/-- `ADC HL,rr` as R262 writes it. -/
def ruleAdc16 (a v : Word) (c : Nat) : Word × FlagBits :=
  let res := BitVec.ofNat 16 ((a.toNat + v.toNat + c) % 65536)
  (res, ⟨res.getLsbD 15, decide (res.toNat = 0), res.getLsbD 13, decide (0xFFF < a.toNat % 4096 + v.toNat % 4096 + c),
    res.getLsbD 11, decide (¬ (-32768 ≤ a.toInt + v.toInt + c ∧ a.toInt + v.toInt + c ≤ 32767)), false,
    decide (0xFFFF < a.toNat + v.toNat + c)⟩)

/-- `SBC HL,rr` as R263 writes it. -/
def ruleSbc16 (a v : Word) (c : Nat) : Word × FlagBits :=
  let res := a - v - BitVec.ofNat 16 c
  (res, ⟨res.getLsbD 15, decide (res.toNat = 0), res.getLsbD 13, decide (a.toNat % 4096 < v.toNat % 4096 + c),
    res.getLsbD 11, decide (¬ (-32768 ≤ a.toInt - v.toInt - c ∧ a.toInt - v.toInt - c ≤ 32767)), true,
    decide (a.toNat < v.toNat + c)⟩)

/-- The result and carry of the rotate or shift of code `y` as R275 to R282 write them, over numbers: a left form doubles and
adds the bit moved in, a right form halves and adds 128 times it. -/
def ruleRot (y : Code3) (v : Byte) (c : Nat) : Byte × Bool :=
  let left (b : Nat) : Byte × Bool := (BitVec.ofNat 8 ((2 * v.toNat + b) % 256), decide (128 ≤ v.toNat))
  let right (b : Nat) : Byte × Bool := (BitVec.ofNat 8 (v.toNat / 2 + 128 * b), decide (v.toNat % 2 = 1))
  match y with
  | .k0 => left (v.toNat / 128)
  | .k1 => right (v.toNat % 2)
  | .k2 => left c
  | .k3 => right c
  | .k4 => left 0
  | .k5 => right (v.toNat / 128)
  | .k6 => left 1
  | .k7 => right 0

/-- The flags of the CB rotates and shifts as R283 writes them. -/
def ruleRotFlags (res : Byte) (c : Bool) : FlagBits :=
  ⟨res.getLsbD 7, decide (res.toNat = 0), res.getLsbD 5, false, res.getLsbD 3, ruleParity res, false, c⟩

/-- The flags of RLD, RRD and `IN r,(C)` as R284 and R331 write them: C is kept. -/
def ruleTestFlags (res : Byte) (old : FlagBits) : FlagBits :=
  ⟨res.getLsbD 7, decide (res.toNat = 0), res.getLsbD 5, false, res.getLsbD 3, ruleParity res, false, old.c⟩

/-- The flags of BIT as R290 writes them, F5 and F3 from `xy`. -/
def ruleBit (k : Nat) (v xy : Byte) (old : FlagBits) : FlagBits :=
  let t := decide (v.toNat / 2 ^ k % 2 = 1)
  ⟨decide (k = 7 ∧ t = true), !t, xy.getLsbD 5, true, xy.getLsbD 3, !t, false, old.c⟩

/-- The flags of a block transfer as R196 writes them. -/
def ruleBlockMove (v a : Byte) (bc : Word) (old : FlagBits) : FlagBits :=
  let t := BitVec.ofNat 8 ((v.toNat + a.toNat) % 256)
  ⟨old.s, old.z, t.getLsbD 1, false, t.getLsbD 3, decide (bc.toNat ≠ 0), false, old.c⟩

/-- The flags of a block search as R200 writes them. -/
def ruleBlockSearch (v a : Byte) (bc : Word) (old : FlagBits) : FlagBits :=
  let res := a - v
  let h := decide (a.toNat % 16 < v.toNat % 16)
  let t := res - BitVec.ofNat 8 h.toNat
  ⟨res.getLsbD 7, decide (a = v), t.getLsbD 1, h, t.getLsbD 3, decide (bc.toNat ≠ 0), true, old.c⟩

/-- The flags of block I/O as R336 writes them. -/
def ruleBlockIo (v : Byte) (k : Nat) (b : Byte) : FlagBits :=
  ⟨b.getLsbD 7, decide (b.toNat = 0), b.getLsbD 5, decide (k > 255), b.getLsbD 3,
    ruleParity (BitVec.ofNat 8 (k % 8) ^^^ b), v.getLsbD 7, decide (k > 255)⟩

/-- The condition of code `k` as the table of R300 gives it, from the flag byte. -/
def ruleCond (k : Cond) (f : Byte) : Bool :=
  match k with
  | .nz => f.getLsbD 6 == false
  | .z => f.getLsbD 6 == true
  | .nc => f.getLsbD 0 == false
  | .c => f.getLsbD 0 == true
  | .po => f.getLsbD 2 == false
  | .pe => f.getLsbD 2 == true
  | .p => f.getLsbD 7 == false
  | .m => f.getLsbD 7 == true

/-- The four conditions of `JR cc,e` (R97). -/
def ruleJrCond (k : JrCond) (f : Byte) : Bool :=
  match k with
  | .nz => f.getLsbD 6 == false
  | .z => f.getLsbD 6 == true
  | .nc => f.getLsbD 0 == false
  | .c => f.getLsbD 0 == true

/-! ### Boundaries -/

/-- The step has a boundary to act at: the Z80 architecture and no fault (R37, R3). -/
def AtBoundary (s : State) : Prop := s.params.arch = .z80 ∧ s.fault = none

/-- No interrupt is accepted at this boundary, by R410 steps 1 and 2. -/
def NoAcceptance (s : State) : Prop :=
  ¬ (s.afterPrefix = false ∧ s.nmiPending = true) ∧
    ¬ (s.afterPrefix = false ∧ s.intLine = true ∧ s.iff1 = true ∧ s.eiInhibit = false)

/-- The maskable interrupt is accepted at this boundary, by R410 steps 1 and 2. -/
def MaskableAccepted (s : State) : Prop :=
  s.afterPrefix = false ∧ s.nmiPending = false ∧ s.intLine = true ∧ s.iff1 = true ∧ s.eiInhibit = false

/-- The array, and not the host, answers the four addresses from PC up (R61). -/
def PlainFetch (s : State) : Prop := ∀ k, k < 4 → loadCell s.params.mapper (s.pc + BitVec.ofNat 16 k) ≠ none

/-- The four bytes from PC up. -/
def byteAt (s : State) (k : Nat) : Byte := arrayByte s (s.pc + BitVec.ofNat 16 k)

/-- The instruction the bytes at PC stand for. -/
def instrAt (s : State) : Instr := decodeBytes (byteAt s 0) (byteAt s 1) (byteAt s 2) (byteAt s 3)

/-- The reads of the fetch at PC, in order (R106). -/
def fetchReads (s : State) : List HostCall :=
  (List.range (bytesRead (byteAt s 0) (byteAt s 1))).map fun k =>
    .memRead (s.pc + BitVec.ofNat 16 k) (byteAt s k)

/-- How many M1 fetches an instruction counts (R30): two with a prefix, else one; an ignored prefix one. -/
def m1Fetches (i : Instr) : Nat :=
  match encode i with
  | b :: _ :: _ => if isPrefixByte b then 2 else 1
  | _ => 1

/-- The instructions whose rule stores to memory. -/
def storesMemory : Instr → Bool
  | .ldMHlR _ | .ldMXydR .. | .ldMHlN _ | .ldMXydN .. | .ldMBcA | .ldMDeA | .ldMNnA _ | .ldMNnHl _ | .ldMNnRr ..
  | .ldMNnXy .. | .pushQq _ | .pushXy _ | .exMSpHl | .exMSpXy _ | .ldi | .ldd | .ldir | .lddr | .incMHl | .decMHl
  | .incMXyd .. | .decMXyd .. | .rlcMHl | .rrcMHl | .rlMHl | .rrMHl | .slaMHl | .sraMHl | .sllMHl | .srlMHl | .rlcMXyd ..
  | .rlcMXydR .. | .rrcMXyd .. | .rrcMXydR .. | .rlMXyd .. | .rlMXydR .. | .rrMXyd .. | .rrMXydR .. | .slaMXyd ..
  | .slaMXydR .. | .sraMXyd .. | .sraMXydR .. | .sllMXyd .. | .sllMXydR .. | .srlMXyd .. | .srlMXydR .. | .rld | .rrd
  | .resMHl _ | .setMHl _ | .resMXyd .. | .resMXydR .. | .setMXyd .. | .setMXydR .. | .call _ | .callCc .. | .rst _ | .ini
  | .ind | .inir | .indr => true
  | _ => false

end Sys2Proof.Claims

open Sys2Proof
open Sys2Proof.Machine
open Sys2Proof.Claims

/-! ### Encoding -/

/-- Words written out bit by bit from the encodings of the opcode table, one or more for each family, decode to the
instructions they stand for. -/
def Obligations.SampleWordsDecode : Prop :=
  decodeTableWord 8 0b01000001 = some (.ldRR .b .c) ∧
    decodeTableWord 24 0b00110010_00000000_01010000 = some (.ldMNnA 0x5000#16) ∧
    decodeTableWord 32 0b11101101_01111011_00000000_01010000 = some (.ldRrMNn .sp 0x5000#16) ∧
    decodeTableWord 16 0b11101101_10110000 = some .ldir ∧
    decodeTableWord 24 0b11011101_10000110_11111110 = some (.addMXyd .ix 0xFE#8) ∧
    decodeTableWord 8 0b00100111 = some .daa ∧
    decodeTableWord 16 0b11101101_01010010 = some (.sbcHlRr .de) ∧
    decodeTableWord 16 0b11001011_00111111 = some (.srlR .a) ∧
    decodeTableWord 32 0b11111101_11001011_11111111_11000110 = some (.setMXyd .iy 0xFF#8 .k0) ∧
    decodeTableWord 24 0b11001100_00110100_00010010 = some (.callCc .z 0x1234#16) ∧
    decodeTableWord 16 0b11101101_01011001 = some (.outCR .e) ∧
    decodeTableWord 8 0b11011101 = some (.ignoredIndexPrefix .ix)

/-- Decoding an encoded well-formed instruction gives it back with every operand, whatever bytes follow; an ignored index
prefix comes back before every byte that R103 gives no index meaning (R104). -/
def Obligations.DecodeInvertsEncode : Prop :=
  (∀ (i : Instr) (rest : List Byte), i.wf = true → (∀ xy, i ≠ .ignoredIndexPrefix xy) →
      decode (encode i ++ rest) = .instr i rest) ∧
    ∀ (xy : IndexReg) (b : Byte) (rest : List Byte),
      hasIndexMeaning b = false →
        decode (encode (.ignoredIndexPrefix xy) ++ b :: rest) = .instr (.ignoredIndexPrefix xy) (b :: rest)

/-- Every four bytes give exactly one instruction: it is well formed, and its encoding is the bytes it takes up (R106). -/
def Obligations.EveryByteSequenceDecodes : Prop :=
  ∀ b0 b1 b2 b3 : Byte,
    (decodeBytes b0 b1 b2 b3).wf = true ∧
      encode (decodeBytes b0 b1 b2 b3) = [b0, b1, b2, b3].take (decodeBytes b0 b1 b2 b3).length

/-- The encodings without a handler under `UNDOC_OPS` = fault are exactly those R107 lists: CB 30 to 37, the starred cells of
the ED map (R102) and of the DD/FD map (R103), and the XYCB cells with z ≠ 6 or of SLL (R105). -/
def Obligations.UndocumentedEncodings : Prop :=
  ∀ b0 b1 b2 b3 : Byte,
    (decodeBytes b0 b1 b2 b3).documented = false ↔
      (b0 = 0xCB#8 ∧ 0x30 ≤ b1.toNat ∧ b1.toNat ≤ 0x37) ∨
      (b0 = 0xED#8 ∧
        (b1.toNat < 0x40 ∨ b1.toNat ∈ [0x70, 0x71] ∨
          b1.toNat ∈ [0x4C, 0x54, 0x5C, 0x64, 0x6C, 0x74, 0x7C] ∨
          b1.toNat ∈ [0x55, 0x5D, 0x65, 0x6D, 0x75, 0x7D] ∨
          b1.toNat ∈ [0x4E, 0x66, 0x6E, 0x76, 0x7E] ∨ b1.toNat ∈ [0x77, 0x7F] ∨
          (0x80 ≤ b1.toNat ∧ b1.toNat ≤ 0x9F) ∨
          b1.toNat ∈ [0xA4, 0xA5, 0xA6, 0xA7, 0xAC, 0xAD, 0xAE, 0xAF, 0xB4, 0xB5, 0xB6, 0xB7, 0xBC, 0xBD, 0xBE, 0xBF] ∨
          0xC0 ≤ b1.toNat)) ∨
      ((b0 = 0xDD#8 ∨ b0 = 0xFD#8) ∧
        ((b1 = 0xCB#8 ∧ (b3.toNat % 8 ≠ 6 ∨ (0x30 ≤ b3.toNat ∧ b3.toNat ≤ 0x37))) ∨
          b1.toNat ∈ [0x24, 0x25, 0x26, 0x2C, 0x2D, 0x2E] ∨
          b1.toNat ∈ [0x44, 0x45, 0x4C, 0x4D, 0x54, 0x55, 0x5C, 0x5D, 0x7C, 0x7D] ∨
          b1.toNat ∈ [0x60, 0x61, 0x62, 0x63, 0x64, 0x65, 0x67, 0x68, 0x69, 0x6A, 0x6B, 0x6C, 0x6D, 0x6F] ∨
          b1.toNat ∈ [0x84, 0x85, 0x8C, 0x8D, 0x94, 0x95, 0x9C, 0x9D, 0xA4, 0xA5, 0xAC, 0xAD, 0xB4, 0xB5, 0xBC, 0xBD]))

/-! ### The step -/

/-- When no interrupt is accepted and the core is not halted, the step fetches (the reads in order, the host answering its own)
and runs the meaning of the instruction found. Where the array answers the four addresses from PC up, that instruction is the
one its bytes decode to, and the meaning runs on the state with the two one-boundary bits cleared and the fetch's reads
recorded (R106, R410). -/
def Obligations.StepRunsDecodedInstruction : Prop :=
  (∀ s : State, AtBoundary s → NoAcceptance s → s.halted = false →
      hasHandler (fetch (passBoundary s)).instr s = true →
        step s = exec (fetch (passBoundary s)).instr (fetch (passBoundary s)).state) ∧
    ∀ (s : State) (i : Instr), AtBoundary s → NoAcceptance s → s.halted = false → PlainFetch s → instrAt s = i →
      hasHandler i s = true →
        step s = exec i { s with eiInhibit := false, afterPrefix := false, calls := fetchReads s }

/-- DecodeError. Cause: an undocumented row under `UNDOC_OPS` = fault, and nothing else. Effect: the report names PC and the
bytes decode read, the status is Fault, the two one-boundary bits are cleared, and nothing else of the core changes (R401,
R106); the second clause says it for a fetch the array answers, with the bytes, and the last for any fetch, whose reads are
the bytes reported. That DD/FD 26 and 2E report three bytes is the model's reading of R106 against R401's count (log 11), and
that the faulting step answers a next state is the model's choice (log 9). -/
def Obligations.DecodeErrorChangesOnlyFault : Prop :=
  (∀ (i : Instr) (s : State), hasHandler i s = false ↔ i.documented = false ∧ s.params.undocOps = .fault) ∧
    (∀ s : State, AtBoundary s → NoAcceptance s → s.halted = false → PlainFetch s → hasHandler (instrAt s) s = false →
      step s = .next
        { s with
          fault := some (.decodeError s.pc
            (if byteAt s 0 = 0xDD#8 ∨ byteAt s 0 = 0xFD#8 then
              if byteAt s 1 = 0xCB#8 then [byteAt s 0, byteAt s 1, byteAt s 2, byteAt s 3]
              else if byteAt s 1 = 0x26#8 ∨ byteAt s 1 = 0x2E#8 then [byteAt s 0, byteAt s 1, byteAt s 2]
              else [byteAt s 0, byteAt s 1]
            else [byteAt s 0, byteAt s 1]))
          status := .fault
          eiInhibit := false
          afterPrefix := false
          calls := fetchReads s }) ∧
    (∀ s : State, AtBoundary s → NoAcceptance s → s.halted = false →
      hasHandler (fetch (passBoundary s)).instr s = false →
        ∃ u bytes, step s = .next u ∧ u.fault = some (.decodeError s.pc bytes) ∧ u.status = .fault ∧ u.eiInhibit = false ∧
          u.afterPrefix = false ∧ u.pc = s.pc ∧ u.r = s.r ∧ u.cycles = s.cycles ∧
          u.calls = (List.range bytes.length).map (fun k => .memRead (s.pc + BitVec.ofNat 16 k) (bytes.getD k 0#8)) ∧
          Except [.fault, .eiInhibit, .afterPrefix, .calls, .hostReplies, .draws] s u)

/-- NMI acceptance: what is pushed, where PC goes, which bits are cleared, and that nothing else changes (R421). -/
def Obligations.NmiAcceptance : Prop :=
  ∀ s : State, AtBoundary s → s.afterPrefix = false → s.nmiPending = true →
    ∃ u, step s = .next u ∧ Pushes s.pc { s with calls := [] } u ∧ Ended 0x0066#16 1 11 s u ∧
      u.nmiPending = false ∧ u.halted = false ∧ u.eiInhibit = false ∧ u.iff1 = false ∧
      Except [.mem, .calls, .sp, .nmiPending, .halted, .eiInhibit, .iff1] s u

/-- Maskable acceptance in mode 0 with an RST opcode, and the fault with any other byte (R422); in mode 1 (R423); and the
common effects (R425). That the step that raises the mode 0 fault answers a next state with the report is the model's choice
(log 9). -/
def Obligations.MaskableFixedVectors : Prop :=
  (∀ s : State, AtBoundary s → MaskableAccepted s → s.im = .im0 →
      (s.intData.toNat % 8 = 7 ∧ 192 ≤ s.intData.toNat →
        ∃ u, step s = .next u ∧ Pushes s.pc { s with calls := [] } u ∧
          Ended (BitVec.ofNat 16 (s.intData.toNat - s.intData.toNat % 8 - 192)) 1 13 s u ∧
          u.iff1 = false ∧ u.iff2 = false ∧ u.halted = false ∧ u.eiInhibit = false ∧
          Except [.mem, .calls, .sp, .halted, .eiInhibit, .iff1, .iff2] s u) ∧
      (¬ (s.intData.toNat % 8 = 7 ∧ 192 ≤ s.intData.toNat) →
        step s = .next { s with fault := some (.im0DataError s.pc s.intData), status := .fault, calls := [] })) ∧
    (∀ s : State, AtBoundary s → MaskableAccepted s → s.im = .im1 →
      ∃ u, step s = .next u ∧ Pushes s.pc { s with calls := [] } u ∧ Ended 0x0038#16 1 13 s u ∧
        u.iff1 = false ∧ u.iff2 = false ∧ u.halted = false ∧ u.eiInhibit = false ∧
        Except [.mem, .calls, .sp, .halted, .eiInhibit, .iff1, .iff2] s u)

/-- Maskable acceptance in mode 2: PC is pushed, then the two bytes of the vector `I ++ int_data` are read, low byte first,
and PC takes them: the bytes memory holds after the push, where the array answers (R424, R425). -/
def Obligations.MaskableMode2 : Prop :=
  ∀ s : State, AtBoundary s → MaskableAccepted s → s.im = .im2 →
    ∃ w u, Pushes s.pc { s with calls := [] } w ∧ step s = .next u ∧
      (∀ a, peek u a = peek w a) ∧ u.sp = w.sp ∧
      u.calls = w.calls ++ [.memRead (joinBytes s.i s.intData) (loByte u.pc),
        .memRead (joinBytes s.i s.intData + 1#16) (hiByte u.pc)] ∧
      (loadCell s.params.mapper (joinBytes s.i s.intData) ≠ none →
        loByte u.pc = arrayByte u (joinBytes s.i s.intData)) ∧
      (loadCell s.params.mapper (joinBytes s.i s.intData + 1#16) ≠ none →
        hiByte u.pc = arrayByte u (joinBytes s.i s.intData + 1#16)) ∧
      Ended u.pc 1 19 s u ∧ u.iff1 = false ∧ u.iff2 = false ∧ u.halted = false ∧ u.eiInhibit = false ∧
      Except [.mem, .calls, .hostReplies, .draws, .sp, .halted, .eiInhibit, .iff1, .iff2] s u

/-- Priority and masking: with both requests pending the NMI is taken and leaves the maskable one blocked by IFF1; after an
ignored prefix neither is taken; with IFF1 clear or right after EI the maskable one is not (R411). In the last three cases
the step is what it is without the request. -/
def Obligations.InterruptPriority : Prop :=
  (∀ s : State, AtBoundary s → s.afterPrefix = false → s.nmiPending = true → s.intLine = true → s.iff1 = true →
      ∃ u, step s = .next u ∧ u.pc = 0x0066#16 ∧ u.intLine = true ∧ u.iff2 = s.iff2 ∧ ¬ MaskableAccepted u) ∧
    (∀ s : State, AtBoundary s → s.afterPrefix = true →
      ∀ u, step s = .next u →
        step { s with nmiPending := false, intLine := false } =
          .next { u with nmiPending := false, intLine := false }) ∧
    ∀ s : State, AtBoundary s → s.nmiPending = false → (s.iff1 = false ∨ s.eiInhibit = true) →
      ∀ u, step s = .next u →
        step { s with intLine := false } = .next { u with intLine := false }

/-- The EI delay: a step taken with `ei_inhibit` set accepts no maskable interrupt, be it requested and enabled: it runs the
instruction at PC, `ei_inhibit` cleared. If that instruction is not EI, not an ignored prefix and raises no fault, a request
that finds IFF1 set is accepted at the very next boundary, and the address pushed there is where that instruction left PC
(R413, R460). -/
def Obligations.EiDelaysOneInstruction : Prop :=
  (∀ s : State, AtBoundary s → s.eiInhibit = true → s.nmiPending = false → s.halted = false → PlainFetch s →
      hasHandler (instrAt s) s = true →
        step s = exec (instrAt s) { s with eiInhibit := false, afterPrefix := false, calls := fetchReads s }) ∧
    ∀ s u : State, AtBoundary s → s.eiInhibit = true → s.nmiPending = false → s.afterPrefix = false → s.halted = false →
      PlainFetch s → instrAt s ≠ .ei → (∀ xy, instrAt s ≠ .ignoredIndexPrefix xy) → step s = .next u → u.fault = none →
        u.eiInhibit = false ∧ u.afterPrefix = false ∧
          (s.intLine = true → u.iff1 = true → u.im = .im1 →
            ∃ v, step u = .next v ∧ Pushes u.pc { u with calls := [] } v ∧ v.pc = 0x0038#16)

/-- The idle step while halted (R412). -/
def Obligations.IdleStepWhileHalted : Prop :=
  ∀ s : State, AtBoundary s → NoAcceptance s → s.halted = true →
    ∃ u, step s = .next u ∧ Counted 1 s u ∧ u.cycles = s.cycles + 4 ∧ u.pc = s.pc ∧ u.status = .halted ∧
      u.eiInhibit = false ∧ u.afterPrefix = false ∧ u.calls = [] ∧ Except [.eiInhibit, .afterPrefix, .calls] s u

/-- A faulted state has no step, and the 8080 configuration has none at all (R37, R400, R3, R112). -/
def Obligations.FaultedStateHasNoStep : Prop :=
  (∀ (s : State) (k : FaultRecord), s.params.arch = .z80 → s.fault = some k → step s = .fault (.coreFaulted k)) ∧
    ∀ s : State, s.params.arch = .i8080 → step s = .refused .archI8080

/-- Every step keeps the invariant: memory in canonical form, IFF1 only with IFF2, the one-boundary bits exclusive, the
status in agreement with the fault report (R60, R31, R34, R41, R400). -/
def Obligations.StepKeepsInvariant : Prop := ∀ s u : State, Inv s → step s = .next u → Inv u

/-- The invariant holds right after reset. -/
def Obligations.ResetMeetsInvariant : Prop := Inv State.reset

/-- Cycle accounting of every step: 0 exactly when it faults, else one of the numbers of R471 and R472 (L6). That
a faulting step answers a next state is the model's choice (log 9). -/
def Obligations.StepChargesTStates : Prop :=
  ∀ s u : State, s.fault = none → step s = .next u →
    (u.fault ≠ none ∧ u.cycles = s.cycles) ∨
      (u.fault = none ∧ ∃ t ∈ [4, 5, 6, 7, 8, 9, 10, 11, 12, 13, 14, 15, 16, 17, 18, 19, 20, 21, 23],
        u.cycles = s.cycles + t)

/-- The refresh counter: every instruction but `LD R,A` counts its M1 fetches in the low seven bits of R and keeps bit 7
(R30, L7); after `LD R,A` R is A. -/
def Obligations.RefreshCountsFetches : Prop :=
  (∀ (i : Instr) (s u : State), exec i s = .next u → i ≠ .ldRA → Counted (m1Fetches i) s u) ∧
    ∀ s u : State, exec .ldRA s = .next u → u.r = s.main.a

/-- Which instructions may write the control state: I only `LD I,A`; IM only the IM group; the shadow registers only the two
exchanges; IFF1 and IFF2 only EI, DI, RETN and RETI; `halted` only HALT; the interrupt inputs, the parameters and the fault
report none (R22, R29, R31, R32, R33, R35). -/
def Obligations.ControlStateWriters : Prop :=
  ∀ (i : Instr) (s u : State), exec i s = .next u →
    (u.i ≠ s.i → i = .ldIA) ∧
      (u.im ≠ s.im → i = .im0 ∨ i = .im1 ∨ i = .im2 ∨ ∃ y, i = .imAlias y) ∧
      (u.alt ≠ s.alt → i = .exAfAf ∨ i = .exx) ∧
      (u.iff2 ≠ s.iff2 → i = .ei ∨ i = .di) ∧
      (u.iff1 ≠ s.iff1 → i = .ei ∨ i = .di ∨ i = .reti ∨ i = .retn ∨ ∃ y, i = .retnAlias y) ∧
      (u.halted ≠ s.halted → i = .halt) ∧
      (u.eiInhibit ≠ s.eiInhibit → i = .ei) ∧
      (u.afterPrefix ≠ s.afterPrefix → ∃ xy, i = .ignoredIndexPrefix xy) ∧
      u.intLine = s.intLine ∧ u.intData = s.intData ∧ u.nmiPending = s.nmiPending ∧ u.params = s.params ∧
      u.fault = s.fault

/-- An instruction whose rule writes no memory leaves every byte as it was (R67). -/
def Obligations.OnlyStoringInstructionsWriteMemory : Prop :=
  ∀ (i : Instr) (s u : State), storesMemory i = false → exec i s = .next u → ∀ a, peek u a = peek s a

/-- No instruction traps: from every state each of the 202 instructions completes in a next state without a fault report of
its own (R404). -/
def Obligations.NoInstructionTraps : Prop :=
  ∀ (i : Instr) (s : State), ∃ u, exec i s = .next u ∧ u.fault = s.fault ∧ u.params = s.params

/-! ### Reset -/

/-- What `reset()` sets and what it leaves, from any state (R40, R450, R451). The status, the record of accesses, the host's
pending replies and the count of draws are the model's own fields, and what happens to them is its choice (logs 5 and 15). -/
def Obligations.ResetOperation : Prop :=
  ∀ s : State,
    (hostReset s).pc = 0#16 ∧ (hostReset s).i = 0#8 ∧ (hostReset s).r = 0#8 ∧ (hostReset s).iff1 = false ∧
      (hostReset s).iff2 = false ∧ (hostReset s).im = .im0 ∧ (hostReset s).halted = false ∧
      (hostReset s).eiInhibit = false ∧ (hostReset s).afterPrefix = false ∧ (hostReset s).nmiPending = false ∧
      (hostReset s).cycles = 0 ∧ (hostReset s).fault = none ∧
      (∀ a, peek (hostReset s) a = peek s a) ∧ (hostReset s).intLine = s.intLine ∧
      (hostReset s).intData = s.intData ∧ (hostReset s).params = s.params ∧ (hostReset s).calls = [] ∧
      (hostReset s).status = .normal ∧ (hostReset s).hostReplies = s.hostReplies ∧
      (s.params.resetRegs = .fixed →
        (hostReset s).draws = s.draws ∧ (hostReset s).main.af = 0xFFFF#16 ∧ (hostReset s).main.bc = 0#16 ∧
          (hostReset s).main.de = 0#16 ∧ (hostReset s).main.hl = 0#16 ∧ (hostReset s).sp = 0xFFFF#16 ∧ (hostReset s).ix = 0#16 ∧
          (hostReset s).iy = 0#16 ∧ (hostReset s).alt.af = 0#16 ∧ (hostReset s).alt.bc = 0#16 ∧
          (hostReset s).alt.de = 0#16 ∧ (hostReset s).alt.hl = 0#16) ∧
      (s.params.resetRegs = .draw →
        (hostReset s).main = Regs.drawn s.draws ∧ (hostReset s).alt = Regs.drawn (s.draws + 8) ∧
          (hostReset s).ix = drawnWord (s.draws + 16) ∧ (hostReset s).iy = drawnWord (s.draws + 18) ∧
          (hostReset s).sp = drawnWord (s.draws + 20) ∧ (hostReset s).draws = s.draws + 22)

/-! ### Registers, memory and the stack -/

/-- F's packed byte and its eight booleans are in bijection, each flag at its bit (R26); a pair reads as its first register
times 256 plus its second, AF among them, and a pair written reads back, its halves the quotient and remainder by 256 (R21). -/
def Obligations.RegisterViews : Prop :=
  ((∀ v : Byte, (FlagBits.ofByte v).toByte = v) ∧ (∀ b : FlagBits, FlagBits.ofByte b.toByte = b) ∧
      ∀ b : FlagBits, b.toByte.toNat =
        128 * b.s.toNat + 64 * b.z.toNat + 32 * b.f5.toNat + 16 * b.h.toNat + 8 * b.f3.toNat + 4 * b.pv.toNat +
          2 * b.n.toNat + b.c.toNat) ∧
    (∀ (s : State) (w : Word),
      (∀ rr, getPair rr (setPair rr w s) = w) ∧ (∀ qq, getStackPair qq (setStackPair qq w s) = w) ∧
        (∀ xy, getXy xy (setXy xy w s) = w) ∧
        (setPair .hl w s).main.h.toNat = w.toNat / 256 ∧ (setPair .hl w s).main.l.toNat = w.toNat % 256 ∧
        (setPair .bc w s).main.b.toNat = w.toNat / 256 ∧ (setPair .bc w s).main.c.toNat = w.toNat % 256 ∧
        (setPair .de w s).main.d.toNat = w.toNat / 256 ∧ (setPair .de w s).main.e.toNat = w.toNat % 256 ∧
        (setStackPair .af w s).main.a.toNat = w.toNat / 256 ∧ (setStackPair .af w s).main.f.toNat = w.toNat % 256 ∧
        (getStackPair .af s).toNat = s.main.a.toNat * 256 + s.main.f.toNat ∧
        (getStackPair .bc s).toNat = s.main.b.toNat * 256 + s.main.c.toNat ∧
        (getStackPair .de s).toNat = s.main.d.toNat * 256 + s.main.e.toNat ∧
        (getStackPair .hl s).toNat = s.main.h.toNat * 256 + s.main.l.toNat ∧
        getPair .bc s = getStackPair .bc s ∧ getPair .de s = getStackPair .de s ∧ getPair .hl s = getStackPair .hl s ∧
        getPair .sp s = s.sp ∧
        ∀ xy v, getXy xy (setHalf xy .high v (setXy xy w s)) = BitVec.ofNat 16 (v.toNat * 256 + w.toNat % 256) ∧
          getXy xy (setHalf xy .low v (setXy xy w s)) = BitVec.ofNat 16 (w.toNat / 256 * 256 + v.toNat))

/-- Word accesses: the low byte at `a`, the high byte at `a + 1` modulo 65536, in that order, and what a word written reads
back as (R11, R63, R65). The stack: what `Push16` stores, what `Pop16` reads, and that a pop after a push gives the word and
SP back (R13). -/
def Obligations.WordAndStackAccess : Prop :=
  ((∀ (s : State) (a w : Word), Stores2 a (loByte w) (a + 1#16) (hiByte w) s (memWrite16 s a w)) ∧
      (∀ (s : State) (a : Word), loadCell s.params.mapper a ≠ none → loadCell s.params.mapper (a + 1#16) ≠ none →
        (memRead16 s a).1.toNat = (arrayByte s a).toNat + 256 * (arrayByte s (a + 1#16)).toNat ∧
          (memRead16 s a).2 =
            { s with calls := s.calls ++ [.memRead a (arrayByte s a), .memRead (a + 1#16) (arrayByte s (a + 1#16))] }) ∧
      ∀ (s : State) (a w c d : Word), ReachesCell s a c → ReachesCell s (a + 1#16) d → c ≠ d →
        arrayByte (memWrite16 s a w) a = loByte w ∧ arrayByte (memWrite16 s a w) (a + 1#16) = hiByte w ∧
          (memRead16 (memWrite16 s a w) a).1 = w) ∧
    ((∀ (s : State) (v : Word), Pushes v s (push16 v s) ∧ Except [.sp, .mem, .calls] s (push16 v s)) ∧
      (∀ s : State, loadCell s.params.mapper s.sp ≠ none → loadCell s.params.mapper (s.sp + 1#16) ≠ none →
        (pop16 s).1.toNat = (arrayByte s s.sp).toNat + 256 * (arrayByte s (s.sp + 1#16)).toNat ∧
          (pop16 s).2 = { s with
            sp := s.sp + 2#16
            calls := s.calls ++
              [.memRead s.sp (arrayByte s s.sp), .memRead (s.sp + 1#16) (arrayByte s (s.sp + 1#16))] }) ∧
      ∀ (s : State) (v c d : Word), ReachesCell s (s.sp - 1#16) c → ReachesCell s (s.sp - 2#16) d → c ≠ d →
        (pop16 (push16 v s)).1 = v ∧ (pop16 (push16 v s)).2.sp = s.sp)

/-- The source's law: `PUSH BC` then `POP DE`, and every other pair of codes, moves the word and restores SP; only the two
bytes below SP change (R180, R182, L5). -/
def Obligations.PushThenPopMovesPair : Prop :=
  ∀ (qq qd : StackPair) (s : State) (c d : Word), ReachesCell s (s.sp - 1#16) c → ReachesCell s (s.sp - 2#16) d → c ≠ d →
    ∃ u v, exec (.pushQq qq) s = .next u ∧ exec (.popQq qd) u = .next v ∧
      getStackPair qd v = getStackPair qq s ∧ v.sp = s.sp ∧
      ∀ a, a ≠ c → a ≠ d → peek v a = peek s a

/-! ### 8-bit loads -/

/-- `LD r,r'` and `LD r,n` (R140, R141), and the loads that name an index half, rows without a handler under `UNDOC_OPS` =
fault (R158, R159). -/
def Obligations.LoadRegisterAndHalf : Prop :=
  ((∀ dst src, Row (.ldRR dst src) true [op 1#2 dst.code.bits src.code.bits]) ∧
      (∀ r n, Row (.ldRN r n) true [op 0#2 r.code.bits 6#3, n]) ∧
      (∀ dst src s, ∃ u, exec (.ldRR dst src) s = .next u ∧ u.main.get dst = s.main.get src ∧ RegsExcept [dst] s u ∧
        NoFlags s u ∧ Ended (s.pc + 1#16) 1 4 s u ∧ Except [.main] s u) ∧
      ∀ r n s, ∃ u, exec (.ldRN r n) s = .next u ∧ u.main.get r = n ∧ RegsExcept [r] s u ∧ NoFlags s u ∧
        Ended (s.pc + 2#16) 1 7 s u ∧ Except [.main] s u) ∧
    ((∀ xy dst src, Row (.ldRRXyh xy dst src) false [pre xy, op 1#2 dst.code.bits src.code.bits]) ∧
      (∀ xy h n, Row (.ldXyhN xy h n) false [pre xy, op 0#2 (halfBits h) 6#3, n]) ∧
      (∀ xy dst src s, ∃ u, exec (.ldRRXyh xy dst src) s = .next u ∧
        getHalfReg xy dst u = getHalfReg xy src s ∧ (∀ q, q ≠ dst → getHalfReg xy q u = getHalfReg xy q s) ∧
        (∀ o, o ≠ xy → getXy o u = getXy o s) ∧ u.main.h = s.main.h ∧ u.main.l = s.main.l ∧ NoFlags s u ∧
        Ended (s.pc + 2#16) 2 8 s u ∧ Except [.main, .ix, .iy] s u) ∧
      ∀ xy h n s, ∃ u, exec (.ldXyhN xy h n) s = .next u ∧ getHalf xy h u = n ∧
        (∀ g, g ≠ h → getHalf xy g u = getHalf xy g s) ∧ (∀ o, o ≠ xy → getXy o u = getXy o s) ∧
        Ended (s.pc + 3#16) 2 11 s u ∧ Except [.ix, .iy] s u)

/-- The loads of a register from memory, the byte being what the memory interface answers at the address the rule computes
from the old registers (R142, R143, R148, R149, R150). -/
def Obligations.LoadRegisterFromMemory : Prop :=
  (∀ r, Row (.ldRMHl r) true [op 1#2 r.code.bits 6#3]) ∧
    (∀ r xy d, Row (.ldRMXyd r xy d) true [pre xy, op 1#2 r.code.bits 6#3, d]) ∧
    Row .ldAMBc true [0x0A#8] ∧ Row .ldAMDe true [0x1A#8] ∧
    (∀ nn, Row (.ldAMNn nn) true [0x3A#8, loByte nn, hiByte nn]) ∧
    ∀ s : State,
      let Loads (i : Instr) (r : Reg8) (a : Word) (len k t : Nat) : Prop :=
        ∃ u, exec i s = .next u ∧ u.main.get r = (memRead s a).1 ∧ RegsExcept [r] s u ∧ NoFlags s u ∧
          Ended (s.pc + BitVec.ofNat 16 len) k t s u ∧ Except [.main] (memRead s a).2 u
      (∀ r, Loads (.ldRMHl r) r (joinBytes s.main.h s.main.l) 1 1 7) ∧
        (∀ r xy d, Loads (.ldRMXyd r xy d) r (getXy xy s + d.signExtend 16) 3 2 19) ∧
        Loads .ldAMBc .a (joinBytes s.main.b s.main.c) 1 1 7 ∧
        Loads .ldAMDe .a (joinBytes s.main.d s.main.e) 1 1 7 ∧
        ∀ nn, Loads (.ldAMNn nn) .a nn 3 1 13

/-- The one-byte stores: the address, the byte, and that every other byte and every register stays (R144 to R147, R151 to
R153). -/
def Obligations.StoreByte : Prop :=
  (∀ r, Row (.ldMHlR r) true [op 1#2 6#3 r.code.bits]) ∧
    (∀ xy d r, Row (.ldMXydR xy d r) true [pre xy, op 1#2 6#3 r.code.bits, d]) ∧
    (∀ n, Row (.ldMHlN n) true [0x36#8, n]) ∧ (∀ xy d n, Row (.ldMXydN xy d n) true [pre xy, 0x36#8, d, n]) ∧
    Row .ldMBcA true [0x02#8] ∧ Row .ldMDeA true [0x12#8] ∧
    (∀ nn, Row (.ldMNnA nn) true [0x32#8, loByte nn, hiByte nn]) ∧
    ∀ s : State,
      let Puts (i : Instr) (a : Word) (v : Byte) (len k t : Nat) : Prop :=
        ∃ u, exec i s = .next u ∧ Stores1 a v s u ∧ Ended (s.pc + BitVec.ofNat 16 len) k t s u ∧
          Except [.mem, .calls] s u
      (∀ r, Puts (.ldMHlR r) (joinBytes s.main.h s.main.l) (s.main.get r) 1 1 7) ∧
        (∀ xy d r, Puts (.ldMXydR xy d r) (getXy xy s + d.signExtend 16) (s.main.get r) 3 2 19) ∧
        (∀ n, Puts (.ldMHlN n) (joinBytes s.main.h s.main.l) n 2 1 10) ∧
        (∀ xy d n, Puts (.ldMXydN xy d n) (getXy xy s + d.signExtend 16) n 4 2 19) ∧
        Puts .ldMBcA (joinBytes s.main.b s.main.c) s.main.a 1 1 7 ∧
        Puts .ldMDeA (joinBytes s.main.d s.main.e) s.main.a 1 1 7 ∧
        ∀ nn, Puts (.ldMNnA nn) nn s.main.a 3 1 13

/-- `LD A,I`, `LD A,R`, `LD I,A`, `LD R,A`: PV takes IFF2, C is kept, and R is read after and written after this
instruction's two M1 fetches (R154 to R157). -/
def Obligations.InterruptAndRefreshLoads : Prop :=
  Row .ldAI true [0xED#8, 0x57#8] ∧ Row .ldAR true [0xED#8, 0x5F#8] ∧ Row .ldIA true [0xED#8, 0x47#8] ∧
    Row .ldRA true [0xED#8, 0x4F#8] ∧
    ∀ s : State,
      let Reads (i : Instr) (v : State → Byte) : Prop :=
        ∃ u, exec i s = .next u ∧ u.main.a = v u ∧ RegsExcept [.a] s u ∧
          FlagsAre 0x28#8 ⟨(v u).getLsbD 7, decide ((v u).toNat = 0), (v u).getLsbD 5, false, (v u).getLsbD 3, s.iff2,
            false, s.main.f.getLsbD 0⟩ s u ∧
          Ended (s.pc + 2#16) 2 9 s u ∧ Except [.main, .draws] s u
      Reads .ldAI (fun u => u.i) ∧ Reads .ldAR (fun u => u.r) ∧
        (∃ u, exec .ldIA s = .next u ∧ u.i = s.main.a ∧ Ended (s.pc + 2#16) 2 9 s u ∧ Except [.i] s u) ∧
        ∃ u, exec .ldRA s = .next u ∧ u.r = s.main.a ∧ u.pc = s.pc + 2#16 ∧ u.cycles = s.cycles + 9 ∧
          u.status = .normal ∧ Except [] s u

/-! ### 16-bit loads and the stack -/

/-- `LD rr,nn`, `LD XY,nn`, `LD SP,HL`, `LD SP,XY` (R170, R171, R178, R179). -/
def Obligations.LoadWordImmediate : Prop :=
  (∀ rr nn, Row (.ldRrNn rr nn) true [opQ 0#2 rr.code.bits 0#1 1#3, loByte nn, hiByte nn]) ∧
    (∀ xy nn, Row (.ldXyNn xy nn) true [pre xy, 0x21#8, loByte nn, hiByte nn]) ∧
    Row .ldSpHl true [0xF9#8] ∧ (∀ xy, Row (.ldSpXy xy) true [pre xy, 0xF9#8]) ∧
    ∀ s : State,
      (∀ rr nn, ∃ u, exec (.ldRrNn rr nn) s = .next u ∧ getPair rr u = nn ∧
        (∀ q, q ≠ rr → getPair q u = getPair q s) ∧ u.main.a = s.main.a ∧ NoFlags s u ∧
        Ended (s.pc + 3#16) 1 10 s u ∧ Except [.main, .sp] s u) ∧
        (∀ xy nn, ∃ u, exec (.ldXyNn xy nn) s = .next u ∧ getXy xy u = nn ∧ (∀ o, o ≠ xy → getXy o u = getXy o s) ∧
          Ended (s.pc + 4#16) 2 14 s u ∧ Except [.ix, .iy] s u) ∧
        (∃ u, exec .ldSpHl s = .next u ∧ u.sp = joinBytes s.main.h s.main.l ∧ Ended (s.pc + 1#16) 1 6 s u ∧
          Except [.sp] s u) ∧
        ∀ xy, ∃ u, exec (.ldSpXy xy) s = .next u ∧ u.sp = getXy xy s ∧ Ended (s.pc + 2#16) 2 10 s u ∧
          Except [.sp] s u

/-- `LD HL,(nn)`, `LD rr,(nn)`, `LD XY,(nn)`: the word the memory interface answers at `nn` (R172, R173, R174). -/
def Obligations.LoadWordFromMemory : Prop :=
  (∀ nn, Row (.ldHlMNn nn) true [0x2A#8, loByte nn, hiByte nn]) ∧
    (∀ rr nn, Row (.ldRrMNn rr nn) true [0xED#8, opQ 1#2 rr.code.bits 1#1 3#3, loByte nn, hiByte nn]) ∧
    (∀ xy nn, Row (.ldXyMNn xy nn) true [pre xy, 0x2A#8, loByte nn, hiByte nn]) ∧
    ∀ (s : State) (nn : Word),
      (∃ u, exec (.ldHlMNn nn) s = .next u ∧ getPair .hl u = (memRead16 s nn).1 ∧ RegsExcept [.h, .l] s u ∧
        NoFlags s u ∧ Ended (s.pc + 3#16) 1 16 s u ∧ Except [.main] (memRead16 s nn).2 u) ∧
        (∀ rr, ∃ u, exec (.ldRrMNn rr nn) s = .next u ∧ getPair rr u = (memRead16 s nn).1 ∧
          (∀ q, q ≠ rr → getPair q u = getPair q s) ∧ u.main.a = s.main.a ∧ NoFlags s u ∧
          Ended (s.pc + 4#16) 2 20 s u ∧ Except [.main, .sp] (memRead16 s nn).2 u) ∧
        ∀ xy, ∃ u, exec (.ldXyMNn xy nn) s = .next u ∧ getXy xy u = (memRead16 s nn).1 ∧
          (∀ o, o ≠ xy → getXy o u = getXy o s) ∧ Ended (s.pc + 4#16) 2 20 s u ∧
          Except [.ix, .iy] (memRead16 s nn).2 u

/-- `LD (nn),HL`, `LD (nn),rr`, `LD (nn),XY`: the low byte at `nn`, then the high byte at `nn + 1` (R175, R176, R177). -/
def Obligations.StoreWord : Prop :=
  (∀ nn, Row (.ldMNnHl nn) true [0x22#8, loByte nn, hiByte nn]) ∧
    (∀ rr nn, Row (.ldMNnRr rr nn) true [0xED#8, opQ 1#2 rr.code.bits 0#1 3#3, loByte nn, hiByte nn]) ∧
    (∀ xy nn, Row (.ldMNnXy xy nn) true [pre xy, 0x22#8, loByte nn, hiByte nn]) ∧
    ∀ (s : State) (nn : Word),
      (∃ u, exec (.ldMNnHl nn) s = .next u ∧ Stores2 nn s.main.l (nn + 1#16) s.main.h s u ∧
        Ended (s.pc + 3#16) 1 16 s u ∧ Except [.mem, .calls] s u) ∧
        (∀ rr, ∃ u, exec (.ldMNnRr rr nn) s = .next u ∧
          Stores2 nn (loByte (getPair rr s)) (nn + 1#16) (hiByte (getPair rr s)) s u ∧ Ended (s.pc + 4#16) 2 20 s u ∧
          Except [.mem, .calls] s u) ∧
        ∀ xy, ∃ u, exec (.ldMNnXy xy nn) s = .next u ∧
          Stores2 nn (loByte (getXy xy s)) (nn + 1#16) (hiByte (getXy xy s)) s u ∧ Ended (s.pc + 4#16) 2 20 s u ∧
          Except [.mem, .calls] s u

/-- `PUSH qq` and `PUSH XY` (R180, R181). -/
def Obligations.PushPair : Prop :=
  (∀ qq, Row (.pushQq qq) true [opQ 3#2 qq.code.bits 0#1 5#3]) ∧ (∀ xy, Row (.pushXy xy) true [pre xy, 0xE5#8]) ∧
    ∀ s : State,
      (∀ qq, ∃ u, exec (.pushQq qq) s = .next u ∧ Pushes (getStackPair qq s) s u ∧ Ended (s.pc + 1#16) 1 11 s u ∧
        Except [.mem, .calls, .sp] s u) ∧
        ∀ xy, ∃ u, exec (.pushXy xy) s = .next u ∧ Pushes (getXy xy s) s u ∧ Ended (s.pc + 2#16) 2 15 s u ∧
          Except [.mem, .calls, .sp] s u

/-- `POP qq` and `POP XY`: the word the stack answers; F is written only by `POP AF`, and then whole (R182, R183). -/
def Obligations.PopPair : Prop :=
  (∀ qq, Row (.popQq qq) true [opQ 3#2 qq.code.bits 0#1 1#3]) ∧ (∀ xy, Row (.popXy xy) true [pre xy, 0xE1#8]) ∧
    ∀ s : State,
      (∀ qq, ∃ u, exec (.popQq qq) s = .next u ∧ getStackPair qq u = (memRead16 s s.sp).1 ∧
        (∀ q, q ≠ qq → getStackPair q u = getStackPair q s) ∧ u.sp = s.sp + 2#16 ∧ Ended (s.pc + 1#16) 1 10 s u ∧
        Except [.main, .sp] (memRead16 s s.sp).2 u) ∧
        ∀ xy, ∃ u, exec (.popXy xy) s = .next u ∧ getXy xy u = (memRead16 s s.sp).1 ∧
          (∀ o, o ≠ xy → getXy o u = getXy o s) ∧ u.sp = s.sp + 2#16 ∧ Ended (s.pc + 2#16) 2 14 s u ∧
          Except [.ix, .iy, .sp] (memRead16 s s.sp).2 u

/-! ### Exchanges and block instructions -/

/-- `EX DE,HL`, `EX AF,AF'`, `EXX` (R190, R191, R192). -/
def Obligations.RegisterExchanges : Prop :=
  Row .exDeHl true [0xEB#8] ∧ Row .exAfAf true [0x08#8] ∧ Row .exx true [0xD9#8] ∧
    ∀ s : State,
      (∃ u, exec .exDeHl s = .next u ∧ u.main.d = s.main.h ∧ u.main.e = s.main.l ∧ u.main.h = s.main.d ∧
        u.main.l = s.main.e ∧ RegsExcept [.d, .e, .h, .l] s u ∧ NoFlags s u ∧ Ended (s.pc + 1#16) 1 4 s u ∧
        Except [.main] s u) ∧
        (∃ u, exec .exAfAf s = .next u ∧ u.main.a = s.alt.a ∧ u.main.f = s.alt.f ∧ u.alt.a = s.main.a ∧
          u.alt.f = s.main.f ∧ RegsExcept [.a] s u ∧ (∀ q, q ≠ Reg8.a → u.alt.get q = s.alt.get q) ∧
          Ended (s.pc + 1#16) 1 4 s u ∧ Except [.main, .alt] s u) ∧
        ∃ u, exec .exx s = .next u ∧
          (∀ q, q ≠ Reg8.a → u.main.get q = s.alt.get q ∧ u.alt.get q = s.main.get q) ∧
          u.main.a = s.main.a ∧ u.main.f = s.main.f ∧ u.alt.a = s.alt.a ∧ u.alt.f = s.alt.f ∧
          Ended (s.pc + 1#16) 1 4 s u ∧ Except [.main, .alt] s u

/-- `EX (SP),HL` and `EX (SP),XY`: the word read low byte first, the old register written high byte first, SP unchanged (R193,
R194). -/
def Obligations.StackTopExchange : Prop :=
  Row .exMSpHl true [0xE3#8] ∧ (∀ xy, Row (.exMSpXy xy) true [pre xy, 0xE3#8]) ∧
    ∀ s : State,
      (∃ u, exec .exMSpHl s = .next u ∧ getPair .hl u = (memRead16 s s.sp).1 ∧ RegsExcept [.h, .l] s u ∧ NoFlags s u ∧
        Stores2 (s.sp + 1#16) s.main.h s.sp s.main.l (memRead16 s s.sp).2 u ∧ Ended (s.pc + 1#16) 1 19 s u ∧
        Except [.main, .mem, .calls] (memRead16 s s.sp).2 u) ∧
        ∀ xy, ∃ u, exec (.exMSpXy xy) s = .next u ∧ getXy xy u = (memRead16 s s.sp).1 ∧
          (∀ o, o ≠ xy → getXy o u = getXy o s) ∧
          Stores2 (s.sp + 1#16) (hiByte (getXy xy s)) s.sp (loByte (getXy xy s)) (memRead16 s s.sp).2 u ∧
          Ended (s.pc + 2#16) 2 23 s u ∧ Except [.ix, .iy, .mem, .calls] (memRead16 s s.sp).2 u

/-- LDI, LDD, LDIR, LDDR: one byte goes from HL to DE, the pointers and the count move, the flags are those of R196; the
repeating forms stay on their own address for 21 T-states while BC is not 0 (R195 to R199). -/
def Obligations.BlockTransfer : Prop :=
  Row .ldi true [0xED#8, 0xA0#8] ∧ Row .ldd true [0xED#8, 0xA8#8] ∧ Row .ldir true [0xED#8, 0xB0#8] ∧
    Row .lddr true [0xED#8, 0xB8#8] ∧
    ∀ s : State,
      let r := memRead s (getPair .hl s)
      let Moves (i : Instr) (delta : Word) (repeats : Bool) : Prop :=
        ∃ u, exec i s = .next u ∧ Stores1 (getPair .de s) r.1 r.2 u ∧ getPair .hl u = getPair .hl s + delta ∧
          getPair .de u = getPair .de s + delta ∧ getPair .bc u = getPair .bc s - 1#16 ∧ u.main.a = s.main.a ∧
          FlagsAre 0x28#8 (ruleBlockMove r.1 s.main.a (getPair .bc u) (flags s)) r.2 u ∧
          (if repeats = true ∧ getPair .bc u ≠ 0#16 then Ended s.pc 2 21 s u else Ended (s.pc + 2#16) 2 16 s u) ∧
          Except [.main, .mem, .calls, .draws] r.2 u
      Moves .ldi 1#16 false ∧ Moves .ldd 0xFFFF#16 false ∧ Moves .ldir 1#16 true ∧ Moves .lddr 0xFFFF#16 true

/-- CPI, CPD, CPIR, CPDR: A is compared with the byte at HL, the pointer and the count move, the flags are those of R200; the
repeating forms stay while BC is not 0 and the byte differs from A (R195, R200 to R203). -/
def Obligations.BlockSearch : Prop :=
  Row .cpi true [0xED#8, 0xA1#8] ∧ Row .cpd true [0xED#8, 0xA9#8] ∧ Row .cpir true [0xED#8, 0xB1#8] ∧
    Row .cpdr true [0xED#8, 0xB9#8] ∧
    ∀ s : State,
      let r := memRead s (getPair .hl s)
      let Searches (i : Instr) (delta : Word) (repeats : Bool) : Prop :=
        ∃ u, exec i s = .next u ∧ getPair .hl u = getPair .hl s + delta ∧ getPair .bc u = getPair .bc s - 1#16 ∧
          RegsExcept [.b, .c, .h, .l] s u ∧
          FlagsAre 0x28#8 (ruleBlockSearch r.1 s.main.a (getPair .bc u) (flags s)) r.2 u ∧
          (if repeats = true ∧ getPair .bc u ≠ 0#16 ∧ s.main.a ≠ r.1 then Ended s.pc 2 21 s u
            else Ended (s.pc + 2#16) 2 16 s u) ∧
          Except [.main, .draws] r.2 u
      Searches .cpi 1#16 false ∧ Searches .cpd 0xFFFF#16 false ∧ Searches .cpir 1#16 true ∧
        Searches .cpdr 0xFFFF#16 true

/-! ### 8-bit arithmetic and logic -/

/-- ADD A, ADC A, SUB, SBC A, AND, XOR, OR and CP, each with a register, the byte at HL, an immediate byte, the byte at an
indexed address and an index half: the new A and all eight flags (R210 to R221; the five forms are R213's). -/
def Obligations.AluOperations : Prop :=
  ((∀ y r, Row (aluOnReg y r) true [op 2#2 y.bits r.code.bits]) ∧ (∀ y, Row (aluOnMHl y) true [op 2#2 y.bits 6#3]) ∧
      (∀ y n, Row (aluOnImm y n) true [op 3#2 y.bits 6#3, n]) ∧
      (∀ y xy d, Row (aluOnMXyd y xy d) true [pre xy, op 2#2 y.bits 6#3, d]) ∧
      ∀ y xy h, Row (aluOnHalf y xy h) false [pre xy, op 2#2 y.bits (halfBits h)]) ∧
    (∀ (y : Code3) (s : State),
      (∀ r, ∃ u, exec (aluOnReg y r) s = .next u ∧ AluEffect y (s.main.get r) s u ∧ Ended (s.pc + 1#16) 1 4 s u ∧
        Except [.main, .draws] s u) ∧
        (∀ n, ∃ u, exec (aluOnImm y n) s = .next u ∧ AluEffect y n s u ∧ Ended (s.pc + 2#16) 1 7 s u ∧
          Except [.main, .draws] s u) ∧
        ∀ xy h, ∃ u, exec (aluOnHalf y xy h) s = .next u ∧ AluEffect y (getHalf xy h s) s u ∧
          Ended (s.pc + 2#16) 2 8 s u ∧ Except [.main, .draws] s u) ∧
    ∀ (y : Code3) (s : State),
      (∃ u, exec (aluOnMHl y) s = .next u ∧
        AluEffect y (memRead s (getPair .hl s)).1 (memRead s (getPair .hl s)).2 u ∧ Ended (s.pc + 1#16) 1 7 s u ∧
        Except [.main, .draws] (memRead s (getPair .hl s)).2 u) ∧
        ∀ xy d, ∃ u, exec (aluOnMXyd y xy d) s = .next u ∧
          AluEffect y (memRead s (getXy xy s + d.signExtend 16)).1 (memRead s (getXy xy s + d.signExtend 16)).2 u ∧
          Ended (s.pc + 3#16) 2 19 s u ∧ Except [.main, .draws] (memRead s (getXy xy s + d.signExtend 16)).2 u

/-- Laws of the 8-bit group over all operands: `ADD A,n` then `SUB n` restores A; `CP n` keeps A, sets Z exactly when A is n
and C exactly when A is below n; `DAA` never clears C (L1, L2, L4). -/
def Obligations.ArithmeticLaws : Prop :=
  ∀ (s : State) (n : Byte),
    (∃ u v, exec (.addN n) s = .next u ∧ exec (.subN n) u = .next v ∧ v.main.a = s.main.a) ∧
      (∃ u, exec (.cpN n) s = .next u ∧ u.main.a = s.main.a ∧
        (u.main.f.getLsbD 6 = true ↔ s.main.a = n) ∧ (u.main.f.getLsbD 0 = true ↔ s.main.a.toNat < n.toNat)) ∧
      ∃ u, exec .daa s = .next u ∧ (s.main.f.getLsbD 0 = true → u.main.f.getLsbD 0 = true)

/-- INC and DEC of a register and of an index half: the result, and every flag but C, which stays (R222, R225, R228). -/
def Obligations.IncDecRegister : Prop :=
  (∀ r, Row (.incR r) true [op 0#2 r.code.bits 4#3]) ∧ (∀ r, Row (.decR r) true [op 0#2 r.code.bits 5#3]) ∧
    (∀ xy h, Row (.incXyh xy h) false [pre xy, op 0#2 (halfBits h) 4#3]) ∧
    (∀ xy h, Row (.decXyh xy h) false [pre xy, op 0#2 (halfBits h) 5#3]) ∧
    ∀ s : State,
      let OnReg (i : Instr) (up : Bool) (r : Reg8) : Prop :=
        ∃ u, exec i s = .next u ∧ u.main.get r = (ruleStep up (s.main.get r) (flags s)).1 ∧ RegsExcept [r] s u ∧
          FlagsAre 0x28#8 (ruleStep up (s.main.get r) (flags s)).2 s u ∧ Ended (s.pc + 1#16) 1 4 s u ∧
          Except [.main, .draws] s u
      let OnHalf (i : Instr) (up : Bool) (xy : IndexReg) (h : Half) : Prop :=
        ∃ u, exec i s = .next u ∧ getHalf xy h u = (ruleStep up (getHalf xy h s) (flags s)).1 ∧
          (∀ g, g ≠ h → getHalf xy g u = getHalf xy g s) ∧ (∀ o, o ≠ xy → getXy o u = getXy o s) ∧ RegsExcept [] s u ∧
          FlagsAre 0x28#8 (ruleStep up (getHalf xy h s) (flags s)).2 s u ∧ Ended (s.pc + 2#16) 2 8 s u ∧
          Except [.main, .ix, .iy, .draws] s u
      (∀ r, OnReg (.incR r) true r ∧ OnReg (.decR r) false r) ∧
        ∀ xy h, OnHalf (.incXyh xy h) true xy h ∧ OnHalf (.decXyh xy h) false xy h

/-- INC and DEC of a byte in memory: read, write back, flags (R223, R224, R226, R227). -/
def Obligations.IncDecMemory : Prop :=
  Row .incMHl true [0x34#8] ∧ Row .decMHl true [0x35#8] ∧
    (∀ xy d, Row (.incMXyd xy d) true [pre xy, 0x34#8, d]) ∧ (∀ xy d, Row (.decMXyd xy d) true [pre xy, 0x35#8, d]) ∧
    ∀ s : State,
      let Steps (i : Instr) (up : Bool) (a : Word) (len k t : Nat) : Prop :=
        ∃ u, exec i s = .next u ∧
          Stores1 a (ruleStep up (memRead s a).1 (flags s)).1 (memRead s a).2 u ∧ RegsExcept [] s u ∧
          FlagsAre 0x28#8 (ruleStep up (memRead s a).1 (flags s)).2 (memRead s a).2 u ∧
          Ended (s.pc + BitVec.ofNat 16 len) k t s u ∧ Except [.main, .mem, .calls, .draws] (memRead s a).2 u
      Steps .incMHl true (getPair .hl s) 1 1 11 ∧ Steps .decMHl false (getPair .hl s) 1 1 11 ∧
        ∀ xy d, Steps (.incMXyd xy d) true (getXy xy s + d.signExtend 16) 3 2 23 ∧
          Steps (.decMXyd xy d) false (getXy xy s + d.signExtend 16) 3 2 23

/-! ### General-purpose arithmetic and control -/

/-- DAA by R240's pseudocode, over numbers. -/
def Obligations.DecimalAdjust : Prop :=
  Row .daa true [0x27#8] ∧
    ∀ s : State, ∃ u, exec .daa s = .next u ∧ u.main.a = (ruleDaa s.main.a (flags s)).1 ∧ RegsExcept [.a] s u ∧
      FlagsAre 0x28#8 (ruleDaa s.main.a (flags s)).2 s u ∧ Ended (s.pc + 1#16) 1 4 s u ∧ Except [.main, .draws] s u

/-- CPL, CCF, SCF and NEG with its undocumented encodings (R241, R242, R243, R251). -/
def Obligations.AccumulatorAndCarry : Prop :=
  Row .cpl true [0x2F#8] ∧ Row .ccf true [0x3F#8] ∧ Row .scf true [0x37#8] ∧ Row .neg true [0xED#8, 0x44#8] ∧
    (∀ y, Row (.negAlias y) false [0xED#8, op 1#2 y.bits 4#3]) ∧
    ∀ s : State,
      let o := flags s
      let Sets (i : Instr) (a : Byte) (b : FlagBits) (len k t : Nat) : Prop :=
        ∃ u, exec i s = .next u ∧ u.main.a = a ∧ RegsExcept [.a] s u ∧ FlagsAre 0x28#8 b s u ∧
          Ended (s.pc + BitVec.ofNat 16 len) k t s u ∧ Except [.main, .draws] s u
      let Negates (i : Instr) : Prop :=
        Sets i (BitVec.ofNat 8 ((256 - s.main.a.toNat) % 256))
          (let res := BitVec.ofNat 8 ((256 - s.main.a.toNat) % 256)
          ⟨res.getLsbD 7, decide (res.toNat = 0), res.getLsbD 5, decide (s.main.a.toNat % 16 ≠ 0), res.getLsbD 3,
            decide (s.main.a.toNat = 128), true, decide (s.main.a.toNat ≠ 0)⟩) 2 2 8
      Sets .cpl (BitVec.ofNat 8 (255 - s.main.a.toNat))
          ⟨o.s, o.z, !s.main.a.getLsbD 5, true, !s.main.a.getLsbD 3, o.pv, true, o.c⟩ 1 1 4 ∧
        Sets .ccf s.main.a ⟨o.s, o.z, s.main.a.getLsbD 5, o.c, s.main.a.getLsbD 3, o.pv, false, !o.c⟩ 1 1 4 ∧
        Sets .scf s.main.a ⟨o.s, o.z, s.main.a.getLsbD 5, false, s.main.a.getLsbD 3, o.pv, false, true⟩ 1 1 4 ∧
        Negates .neg ∧ ∀ y, Negates (.negAlias y)

/-- NOP, the five rows of ED no-operations and the ignored index prefix: PC, R and the cycle count move, and for the prefix
`after_prefix` is set; nothing else changes (R104, R244, R252). -/
def Obligations.NoOperations : Prop :=
  Row .nop true [0x00#8] ∧ (∀ q, Row (.nopEd77 q) false [0xED#8, opQ 1#2 3#2 (BitVec.ofBool q) 7#3]) ∧
    (∀ y z, Row (.nopEdX0 y z) false [0xED#8, op 0#2 y.bits z.bits]) ∧
    (∀ y z, Row (.nopEdX3 y z) false [0xED#8, op 3#2 y.bits z.bits]) ∧
    (∀ p z, Row (.nopEd80 p z) false [0xED#8, 4#3 ++ p.bits ++ z.bits]) ∧
    (∀ p w, Row (.nopEdA4 p w) false [0xED#8, 5#3 ++ p.bits ++ 1#1 ++ w.bits]) ∧
    (∀ xy, Row (.ignoredIndexPrefix xy) true [pre xy]) ∧
    ∀ s : State,
      let Idles (i : Instr) : Prop := ∃ u, exec i s = .next u ∧ Ended (s.pc + 2#16) 2 8 s u ∧ Except [] s u
      (∃ u, exec .nop s = .next u ∧ Ended (s.pc + 1#16) 1 4 s u ∧ Except [] s u) ∧
        (∀ q, Idles (.nopEd77 q)) ∧ (∀ y z, Idles (.nopEdX0 y z)) ∧ (∀ y z, Idles (.nopEdX3 y z)) ∧
        (∀ p z, Idles (.nopEd80 p z)) ∧ (∀ p w, Idles (.nopEdA4 p w)) ∧
        ∀ xy, ∃ u, exec (.ignoredIndexPrefix xy) s = .next u ∧ u.afterPrefix = true ∧ Ended (s.pc + 1#16) 1 4 s u ∧
          Except [.afterPrefix] s u

/-- HALT, DI, EI, IM 0, IM 1, IM 2 and the undocumented encodings of IM (R245 to R250, R253). -/
def Obligations.InterruptControl : Prop :=
  Row .halt true [0x76#8] ∧ Row .di true [0xF3#8] ∧ Row .ei true [0xFB#8] ∧ Row .im0 true [0xED#8, 0x46#8] ∧
    Row .im1 true [0xED#8, 0x56#8] ∧ Row .im2 true [0xED#8, 0x5E#8] ∧
    (∀ y, Row (.imAlias y) false [0xED#8, op 1#2 y.bits 6#3]) ∧
    ∀ s : State,
      let Mode (i : Instr) (m : IntMode) : Prop :=
        ∃ u, exec i s = .next u ∧ u.im = m ∧ Ended (s.pc + 2#16) 2 8 s u ∧ Except [.im] s u
      (∃ u, exec .halt s = .next u ∧ u.halted = true ∧ u.status = .halted ∧ u.pc = s.pc + 1#16 ∧ Counted 1 s u ∧
        u.cycles = s.cycles + 4 ∧ Except [.halted] s u) ∧
        (∃ u, exec .di s = .next u ∧ u.iff1 = false ∧ u.iff2 = false ∧ Ended (s.pc + 1#16) 1 4 s u ∧
          Except [.iff1, .iff2] s u) ∧
        (∃ u, exec .ei s = .next u ∧ u.iff1 = true ∧ u.iff2 = true ∧ u.eiInhibit = true ∧
          Ended (s.pc + 1#16) 1 4 s u ∧ Except [.iff1, .iff2, .eiInhibit] s u) ∧
        Mode .im0 .im0 ∧ Mode .im1 .im1 ∧ Mode .im2 .im2 ∧
        Mode (.imAlias .k1) .im0 ∧ Mode (.imAlias .k4) .im0 ∧ Mode (.imAlias .k5) .im0 ∧ Mode (.imAlias .k6) .im1 ∧
        Mode (.imAlias .k7) .im2

/-! ### 16-bit arithmetic -/

/-- `ADD HL,rr` and `ADD XY,rr`: the sum, H, N, C, F5 and F3; S, Z and PV stay (R260, R261). `ADC HL,rr` and `SBC HL,rr`: the
result and all eight flags on 16 bits (R262, R263). -/
def Obligations.WordArithmetic : Prop :=
  ((∀ rr, Row (.addHlRr rr) true [opQ 0#2 rr.code.bits 1#1 1#3]) ∧
      (∀ xy pp, Row (.addXyRr xy pp) true [pre xy, opQ 0#2 pp.code.bits 1#1 1#3]) ∧
      ∀ s : State,
        (∀ rr, ∃ u, exec (.addHlRr rr) s = .next u ∧
          getPair .hl u = (ruleAdd16 (getPair .hl s) (getPair rr s) (flags s)).1 ∧ RegsExcept [.h, .l] s u ∧
          FlagsAre 0x28#8 (ruleAdd16 (getPair .hl s) (getPair rr s) (flags s)).2 s u ∧ Ended (s.pc + 1#16) 1 11 s u ∧
          Except [.main, .draws] s u) ∧
          ∀ xy pp, ∃ u, exec (.addXyRr xy pp) s = .next u ∧
            getXy xy u = (ruleAdd16 (getXy xy s) (getIndexPair xy pp s) (flags s)).1 ∧
            (∀ o, o ≠ xy → getXy o u = getXy o s) ∧ RegsExcept [] s u ∧
            FlagsAre 0x28#8 (ruleAdd16 (getXy xy s) (getIndexPair xy pp s) (flags s)).2 s u ∧
            Ended (s.pc + 2#16) 2 15 s u ∧ Except [.main, .ix, .iy, .draws] s u) ∧
    ((∀ rr, Row (.adcHlRr rr) true [0xED#8, opQ 1#2 rr.code.bits 1#1 2#3]) ∧
      (∀ rr, Row (.sbcHlRr rr) true [0xED#8, opQ 1#2 rr.code.bits 0#1 2#3]) ∧
      ∀ (rr : RegPair) (s : State),
        let Computes (i : Instr) (q : Word × FlagBits) : Prop :=
          ∃ u, exec i s = .next u ∧ getPair .hl u = q.1 ∧ RegsExcept [.h, .l] s u ∧ FlagsAre 0x28#8 q.2 s u ∧
            Ended (s.pc + 2#16) 2 15 s u ∧ Except [.main, .draws] s u
        Computes (.adcHlRr rr) (ruleAdc16 (getPair .hl s) (getPair rr s) (carry s)) ∧
          Computes (.sbcHlRr rr) (ruleSbc16 (getPair .hl s) (getPair rr s) (carry s)))

/-- `INC rr`, `DEC rr`, `INC XY`, `DEC XY`: modulo 65536, no flag (R264 to R267). -/
def Obligations.WordIncDec : Prop :=
  (∀ rr, Row (.incRr rr) true [opQ 0#2 rr.code.bits 0#1 3#3]) ∧
    (∀ rr, Row (.decRr rr) true [opQ 0#2 rr.code.bits 1#1 3#3]) ∧ (∀ xy, Row (.incXy xy) true [pre xy, 0x23#8]) ∧
    (∀ xy, Row (.decXy xy) true [pre xy, 0x2B#8]) ∧
    ∀ s : State,
      let OnPair (i : Instr) (rr : RegPair) (by' : Nat) : Prop :=
        ∃ u, exec i s = .next u ∧ (getPair rr u).toNat = ((getPair rr s).toNat + by') % 65536 ∧
          (∀ q, q ≠ rr → getPair q u = getPair q s) ∧ u.main.a = s.main.a ∧ NoFlags s u ∧
          Ended (s.pc + 1#16) 1 6 s u ∧ Except [.main, .sp] s u
      let OnXy (i : Instr) (xy : IndexReg) (by' : Nat) : Prop :=
        ∃ u, exec i s = .next u ∧ (getXy xy u).toNat = ((getXy xy s).toNat + by') % 65536 ∧
          (∀ o, o ≠ xy → getXy o u = getXy o s) ∧ Ended (s.pc + 2#16) 2 10 s u ∧ Except [.ix, .iy] s u
      (∀ rr, OnPair (.incRr rr) rr 1 ∧ OnPair (.decRr rr) rr 65535) ∧
        ∀ xy, OnXy (.incXy xy) xy 1 ∧ OnXy (.decXy xy) xy 65535

/-! ### Rotates, shifts and bits -/

/-- RLCA, RRCA, RLA, RRA: A and C, H and N cleared, F5 and F3 from the new A; S, Z and PV stay (R270 to R273). -/
def Obligations.RotateAccumulator : Prop :=
  Row .rlca true [0x07#8] ∧ Row .rrca true [0x0F#8] ∧ Row .rla true [0x17#8] ∧ Row .rra true [0x1F#8] ∧
    ∀ s : State,
      let Rotates (i : Instr) (y : Code3) : Prop :=
        let q := ruleRot y s.main.a (carry s)
        ∃ u, exec i s = .next u ∧ u.main.a = q.1 ∧ RegsExcept [.a] s u ∧
          FlagsAre 0x28#8 ⟨(flags s).s, (flags s).z, q.1.getLsbD 5, false, q.1.getLsbD 3, (flags s).pv, false, q.2⟩ s u ∧
          Ended (s.pc + 1#16) 1 4 s u ∧ Except [.main, .draws] s u
      Rotates .rlca .k0 ∧ Rotates .rrca .k1 ∧ Rotates .rla .k2 ∧ Rotates .rra .k3

/-- RLC, RRC, RL, RR, SLA, SRA, SLL, SRL on a register, on a byte in memory, and on a byte in memory with a copy to a
register: the result and all eight flags; SLL in every form and the copying form of every one have no handler under
`UNDOC_OPS` = fault (R275 to R283). -/
def Obligations.RotateAndShift : Prop :=
  ((∀ y r, Row (rotOnReg y r) (decide (y ≠ .k6)) [0xCB#8, op 0#2 y.bits r.code.bits]) ∧
      (∀ y, Row (rotOnMHl y) (decide (y ≠ .k6)) [0xCB#8, op 0#2 y.bits 6#3]) ∧
      (∀ y xy d, Row (rotOnMXyd y xy d) (decide (y ≠ .k6)) [pre xy, 0xCB#8, d, op 0#2 y.bits 6#3]) ∧
      ∀ y xy d r, Row (rotOnMXydR y xy d r) false [pre xy, 0xCB#8, d, op 0#2 y.bits r.code.bits]) ∧
    (∀ (y : Code3) (r : Reg8) (s : State),
      let q := ruleRot y (s.main.get r) (carry s)
      ∃ u, exec (rotOnReg y r) s = .next u ∧ u.main.get r = q.1 ∧ RegsExcept [r] s u ∧
        FlagsAre 0x28#8 (ruleRotFlags q.1 q.2) s u ∧ Ended (s.pc + 2#16) 2 8 s u ∧ Except [.main, .draws] s u) ∧
    ∀ (y : Code3) (s : State),
      let Rotates (i : Instr) (a : Word) (copy : List Reg8) (len t : Nat) : Prop :=
        let m := memRead s a
        let q := ruleRot y m.1 (carry s)
        ∃ u, exec i s = .next u ∧ Stores1 a q.1 m.2 u ∧ (∀ r, r ∈ copy → u.main.get r = q.1) ∧ RegsExcept copy s u ∧
          FlagsAre 0x28#8 (ruleRotFlags q.1 q.2) m.2 u ∧ Ended (s.pc + BitVec.ofNat 16 len) 2 t s u ∧
          Except [.main, .mem, .calls, .draws] m.2 u
      Rotates (rotOnMHl y) (getPair .hl s) [] 2 15 ∧
        ∀ xy d, Rotates (rotOnMXyd y xy d) (getXy xy s + d.signExtend 16) [] 4 23 ∧
          ∀ r, Rotates (rotOnMXydR y xy d r) (getXy xy s + d.signExtend 16) [r] 4 23

/-- RLD and RRD over numbers: which digits go where, and the flags from the new A (R284, R285). -/
def Obligations.DigitRotates : Prop :=
  Row .rld true [0xED#8, 0x6F#8] ∧ Row .rrd true [0xED#8, 0x67#8] ∧
    ∀ s : State,
      let m := memRead s (getPair .hl s)
      let Moves (i : Instr) (a v : Nat) : Prop :=
        ∃ u, exec i s = .next u ∧ u.main.a = BitVec.ofNat 8 a ∧ RegsExcept [.a] s u ∧
          Stores1 (getPair .hl s) (BitVec.ofNat 8 v) m.2 u ∧
          FlagsAre 0x28#8 (ruleTestFlags (BitVec.ofNat 8 a) (flags s)) m.2 u ∧ Ended (s.pc + 2#16) 2 18 s u ∧
          Except [.main, .mem, .calls, .draws] m.2 u
      Moves .rld (s.main.a.toNat / 16 * 16 + m.1.toNat / 16) (m.1.toNat % 16 * 16 + s.main.a.toNat % 16) ∧
        Moves .rrd (s.main.a.toNat / 16 * 16 + m.1.toNat % 16) (s.main.a.toNat % 16 * 16 + m.1.toNat / 16)

/-- BIT in its four rows: Z and PV are the complement of the bit, S is bit 7 tested set, H is 1, N is 0, C stays; F5 and F3
come from the register, from the high byte of the indexed address, or are free for (HL) (R290, R291, R292). -/
def Obligations.BitTest : Prop :=
  (∀ b r, Row (.bitR b r) true [0xCB#8, op 1#2 b.bits r.code.bits]) ∧
    (∀ b, Row (.bitMHl b) true [0xCB#8, op 1#2 b.bits 6#3]) ∧
    (∀ xy d b, Row (.bitMXyd xy d b) true [pre xy, 0xCB#8, d, op 1#2 b.bits 6#3]) ∧
    (∀ xy d b r, Row (.bitMXydAlias xy d b r) false [pre xy, 0xCB#8, d, op 1#2 b.bits r.code.bits]) ∧
    ∀ (b : Code3) (s : State),
      let k := b.bits.toNat
      (∀ r, ∃ u, exec (.bitR b r) s = .next u ∧ RegsExcept [] s u ∧
        FlagsAre 0x28#8 (ruleBit k (s.main.get r) (s.main.get r) (flags s)) s u ∧ Ended (s.pc + 2#16) 2 8 s u ∧
        Except [.main, .draws] s u) ∧
        (∃ u, exec (.bitMHl b) s = .next u ∧ RegsExcept [] s u ∧
          FlagsFree 0x28#8 (ruleBit k (memRead s (getPair .hl s)).1 0#8 (flags s)) (memRead s (getPair .hl s)).2 u ∧
          Ended (s.pc + 2#16) 2 12 s u ∧ Except [.main, .draws] (memRead s (getPair .hl s)).2 u) ∧
        ∀ xy d,
          let a := getXy xy s + d.signExtend 16
          let Tests (i : Instr) : Prop :=
            ∃ u, exec i s = .next u ∧ RegsExcept [] s u ∧
              FlagsAre 0x28#8 (ruleBit k (memRead s a).1 (hiByte a) (flags s)) (memRead s a).2 u ∧
              Ended (s.pc + 4#16) 2 20 s u ∧ Except [.main, .draws] (memRead s a).2 u
          Tests (.bitMXyd xy d b) ∧ ∀ r, Tests (.bitMXydAlias xy d b r)

/-- SET and RES in their eight rows: bit b alone changes, in the register, in the byte of memory, and in the copy; no flag
(R274, R293 to R298). -/
def Obligations.BitSetReset : Prop :=
  (∀ b r, Row (.setR b r) true [0xCB#8, op 3#2 b.bits r.code.bits] ∧
      Row (.resR b r) true [0xCB#8, op 2#2 b.bits r.code.bits]) ∧
    (∀ b, Row (.setMHl b) true [0xCB#8, op 3#2 b.bits 6#3] ∧ Row (.resMHl b) true [0xCB#8, op 2#2 b.bits 6#3]) ∧
    (∀ xy d b, Row (.setMXyd xy d b) true [pre xy, 0xCB#8, d, op 3#2 b.bits 6#3] ∧
      Row (.resMXyd xy d b) true [pre xy, 0xCB#8, d, op 2#2 b.bits 6#3]) ∧
    (∀ xy d b r, Row (.setMXydR xy d b r) false [pre xy, 0xCB#8, d, op 3#2 b.bits r.code.bits] ∧
      Row (.resMXydR xy d b r) false [pre xy, 0xCB#8, d, op 2#2 b.bits r.code.bits]) ∧
    ∀ (b : Code3) (s : State),
      let IsChanged (on : Bool) (v w : Byte) : Prop :=
        ∀ k, k < 8 → w.getLsbD k = if k = b.bits.toNat then on else v.getLsbD k
      let OnReg (i : Instr) (on : Bool) (r : Reg8) : Prop :=
        ∃ u, exec i s = .next u ∧ IsChanged on (s.main.get r) (u.main.get r) ∧ RegsExcept [r] s u ∧ NoFlags s u ∧
          Ended (s.pc + 2#16) 2 8 s u ∧ Except [.main] s u
      let OnMem (i : Instr) (on : Bool) (a : Word) (copy : List Reg8) (len t : Nat) : Prop :=
        let m := memRead s a
        ∃ u w, exec i s = .next u ∧ IsChanged on m.1 w ∧ Stores1 a w m.2 u ∧ (∀ r, r ∈ copy → u.main.get r = w) ∧
          RegsExcept copy s u ∧ NoFlags s u ∧ Ended (s.pc + BitVec.ofNat 16 len) 2 t s u ∧
          Except [.main, .mem, .calls] m.2 u
      (∀ r, OnReg (.setR b r) true r ∧ OnReg (.resR b r) false r) ∧
        OnMem (.setMHl b) true (getPair .hl s) [] 2 15 ∧ OnMem (.resMHl b) false (getPair .hl s) [] 2 15 ∧
        ∀ xy d,
          let a := getXy xy s + d.signExtend 16
          OnMem (.setMXyd xy d b) true a [] 4 23 ∧ OnMem (.resMXyd xy d b) false a [] 4 23 ∧
            ∀ r, OnMem (.setMXydR xy d b r) true a [r] 4 23 ∧ OnMem (.resMXydR xy d b r) false a [r] 4 23

/-! ### Jumps, calls and returns -/

/-- JP, JP cc, JR, JR cc, JP (HL), JP (XY) and DJNZ: where PC goes and what is charged, taken and not taken; nothing but B of
DJNZ changes besides (R300 to R307, R313). -/
def Obligations.Jumps : Prop :=
  (∀ nn, Row (.jp nn) true [0xC3#8, loByte nn, hiByte nn]) ∧
    (∀ cc nn, Row (.jpCc cc nn) true [op 3#2 cc.code.bits 2#3, loByte nn, hiByte nn]) ∧
    (∀ e, Row (.jr e) true [0x18#8, e]) ∧ (∀ cc e, Row (.jrCc cc e) true [op 0#2 cc.code.bits 0#3, e]) ∧
    Row .jpHl true [0xE9#8] ∧ (∀ xy, Row (.jpXy xy) true [pre xy, 0xE9#8]) ∧ (∀ e, Row (.djnz e) true [0x10#8, e]) ∧
    ∀ s : State,
      let Goes (i : Instr) (taken : Bool) (target next : Word) (k tTaken tNot : Nat) : Prop :=
        ∃ u, exec i s = .next u ∧
          (if taken then Ended target k tTaken s u else Ended next k tNot s u) ∧ Except [] s u
      let relative (e : Byte) : Word := BitVec.ofInt 16 (s.pc.toNat + 2 + e.toInt)
      (∀ nn, Goes (.jp nn) true nn nn 1 10 10) ∧
        (∀ cc nn, Goes (.jpCc cc nn) (ruleCond cc s.main.f) nn (s.pc + 3#16) 1 10 10) ∧
        (∀ e, Goes (.jr e) true (relative e) (relative e) 1 12 12) ∧
        (∀ cc e, Goes (.jrCc cc e) (ruleJrCond cc s.main.f) (relative e) (s.pc + 2#16) 1 12 7) ∧
        Goes .jpHl true (getPair .hl s) (getPair .hl s) 1 4 4 ∧
        (∀ xy, Goes (.jpXy xy) true (getXy xy s) (getXy xy s) 2 8 8) ∧
        ∀ e, ∃ u, exec (.djnz e) s = .next u ∧ u.main.b.toNat = (s.main.b.toNat + 255) % 256 ∧
          RegsExcept [.b] s u ∧ NoFlags s u ∧
          (if s.main.b.toNat ≠ 1 then Ended (relative e) 1 13 s u else Ended (s.pc + 2#16) 1 8 s u) ∧
          Except [.main] s u

/-- CALL, CALL cc and RST: the return address pushed is that of the next instruction; not taken, a conditional call touches
no stack (R308, R309, R312, R313). -/
def Obligations.Calls : Prop :=
  (∀ nn, Row (.call nn) true [0xCD#8, loByte nn, hiByte nn]) ∧
    (∀ cc nn, Row (.callCc cc nn) true [op 3#2 cc.code.bits 4#3, loByte nn, hiByte nn]) ∧
    (∀ t, Row (.rst t) true [op 3#2 t.bits 7#3]) ∧
    ∀ s : State,
      let CallsTo (i : Instr) (target next : Word) (t : Nat) : Prop :=
        ∃ u, exec i s = .next u ∧ Pushes next s u ∧ Ended target 1 t s u ∧ Except [.mem, .calls, .sp] s u
      (∀ nn, CallsTo (.call nn) nn (s.pc + 3#16) 17) ∧
        (∀ cc nn, ruleCond cc s.main.f = true → CallsTo (.callCc cc nn) nn (s.pc + 3#16) 17) ∧
        (∀ cc nn, ruleCond cc s.main.f = false →
          ∃ u, exec (.callCc cc nn) s = .next u ∧ Ended (s.pc + 3#16) 1 10 s u ∧ Except [] s u) ∧
        ∀ t, CallsTo (.rst t) (BitVec.ofNat 16 (8 * t.bits.toNat)) (s.pc + 1#16) 11

/-- RET, RET cc, RETI, RETN and its undocumented encodings: PC is the word the stack answers, SP increases by 2, and RETI and
RETN copy IFF2 to IFF1 (R310, R311, R313, R317, R318). -/
def Obligations.Returns : Prop :=
  Row .ret true [0xC9#8] ∧ (∀ cc, Row (.retCc cc) true [op 3#2 cc.code.bits 0#3]) ∧ Row .reti true [0xED#8, 0x4D#8] ∧
    Row .retn true [0xED#8, 0x45#8] ∧ (∀ y, Row (.retnAlias y) false [0xED#8, op 1#2 y.bits 5#3]) ∧
    ∀ s : State,
      let m := memRead16 s s.sp
      let ReturnsBy (i : Instr) (t : Nat) : Prop :=
        ∃ u, exec i s = .next u ∧ u.sp = s.sp + 2#16 ∧ Ended m.1 1 t s u ∧ Except [.sp] m.2 u
      let ReturnsFromInterrupt (i : Instr) : Prop :=
        ∃ u, exec i s = .next u ∧ u.sp = s.sp + 2#16 ∧ u.iff1 = s.iff2 ∧ Ended m.1 2 14 s u ∧ Except [.sp, .iff1] m.2 u
      ReturnsBy .ret 10 ∧ (∀ cc, ruleCond cc s.main.f = true → ReturnsBy (.retCc cc) 11) ∧
        (∀ cc, ruleCond cc s.main.f = false →
          ∃ u, exec (.retCc cc) s = .next u ∧ Ended (s.pc + 1#16) 1 5 s u ∧ Except [] s u) ∧
        ReturnsFromInterrupt .reti ∧ ReturnsFromInterrupt .retn ∧ ∀ y, ReturnsFromInterrupt (.retnAlias y)

/-! ### Input and output -/

/-- The single port transfers: the port address, the byte the host hands over or receives, the flags of `IN r,(C)` and
`IN F,(C)` (R330 to R335). -/
def Obligations.PortTransfers : Prop :=
  (∀ n, Row (.inAN n) true [0xDB#8, n]) ∧ (∀ r, Row (.inRC r) true [0xED#8, op 1#2 r.code.bits 0#3]) ∧
    Row .inFC false [0xED#8, 0x70#8] ∧ (∀ n, Row (.outNA n) true [0xD3#8, n]) ∧
    (∀ r, Row (.outCR r) true [0xED#8, op 1#2 r.code.bits 1#3]) ∧ Row .outC0 false [0xED#8, 0x71#8] ∧
    ∀ s : State,
      let Outs (i : Instr) (p : Word) (v : Byte) (k t : Nat) : Prop :=
        ∃ u, exec i s = .next u ∧ u.calls = s.calls ++ [.portWrite p v] ∧ Ended (s.pc + 2#16) k t s u ∧
          Except [.calls] s u
      let v := (hostByte s).1
      let h := (hostByte s).2
      (∀ n, ∃ u, exec (.inAN n) s = .next u ∧ u.main.a = v ∧ u.calls = s.calls ++ [.portRead (joinBytes s.main.a n) v] ∧
        RegsExcept [.a] s u ∧ NoFlags s u ∧ Ended (s.pc + 2#16) 1 11 s u ∧ Except [.main, .calls] h u) ∧
        (∀ r, ∃ u, exec (.inRC r) s = .next u ∧ u.main.get r = v ∧
          u.calls = s.calls ++ [.portRead (getPair .bc s) v] ∧ RegsExcept [r] s u ∧
          FlagsAre 0x28#8 (ruleTestFlags v (flags s)) h u ∧ Ended (s.pc + 2#16) 2 12 s u ∧
          Except [.main, .calls, .draws] h u) ∧
        (∃ u, exec .inFC s = .next u ∧ u.calls = s.calls ++ [.portRead (getPair .bc s) v] ∧ RegsExcept [] s u ∧
          FlagsAre 0x28#8 (ruleTestFlags v (flags s)) h u ∧ Ended (s.pc + 2#16) 2 12 s u ∧
          Except [.main, .calls, .draws] h u) ∧
        (∀ n, Outs (.outNA n) (joinBytes s.main.a n) s.main.a 1 11) ∧
        (∀ r, Outs (.outCR r) (getPair .bc s) (s.main.get r) 2 12) ∧
        Outs .outC0 (getPair .bc s) s.params.outCZero 2 12

/-- INI, IND, INIR, INDR: a byte from port BC (B not yet decremented) goes to HL, B counts down, HL moves, the flags are
those of R336; the repeating forms stay while B is not 0 (R195, R336 to R340). -/
def Obligations.BlockInput : Prop :=
  Row .ini true [0xED#8, 0xA2#8] ∧ Row .ind true [0xED#8, 0xAA#8] ∧ Row .inir true [0xED#8, 0xB2#8] ∧
    Row .indr true [0xED#8, 0xBA#8] ∧
    ∀ s : State,
      let v := (hostByte s).1
      let h := logCall (.portRead (getPair .bc s) v) (hostByte s).2
      let Inputs (i : Instr) (delta : Nat) (repeats : Bool) : Prop :=
        ∃ u, exec i s = .next u ∧ Stores1 (getPair .hl s) v h u ∧
          (getPair .hl u).toNat = ((getPair .hl s).toNat + delta) % 65536 ∧
          u.main.b.toNat = (s.main.b.toNat + 255) % 256 ∧ RegsExcept [.b, .h, .l] s u ∧
          FlagsAre 0xBF#8 (ruleBlockIo v (v.toNat + (s.main.c.toNat + delta) % 256) u.main.b) h u ∧
          (if repeats = true ∧ s.main.b.toNat ≠ 1 then Ended s.pc 2 21 s u else Ended (s.pc + 2#16) 2 16 s u) ∧
          Except [.main, .mem, .calls, .draws] h u
      Inputs .ini 1 false ∧ Inputs .ind 65535 false ∧ Inputs .inir 1 true ∧ Inputs .indr 65535 true

/-- OUTI, OUTD, OTIR, OTDR: the byte at HL goes to port BC with B already decremented, HL moves, the flags are those of R336;
the repeating forms stay while B is not 0 (R195, R336, R341 to R344). -/
def Obligations.BlockOutput : Prop :=
  Row .outi true [0xED#8, 0xA3#8] ∧ Row .outd true [0xED#8, 0xAB#8] ∧ Row .otir true [0xED#8, 0xB3#8] ∧
    Row .otdr true [0xED#8, 0xBB#8] ∧
    ∀ s : State,
      let m := memRead s (getPair .hl s)
      let Outputs (i : Instr) (delta : Nat) (repeats : Bool) : Prop :=
        ∃ u, exec i s = .next u ∧ u.calls = m.2.calls ++ [.portWrite (joinBytes u.main.b s.main.c) m.1] ∧
          (getPair .hl u).toNat = ((getPair .hl s).toNat + delta) % 65536 ∧
          u.main.b.toNat = (s.main.b.toNat + 255) % 256 ∧ RegsExcept [.b, .h, .l] s u ∧
          FlagsAre 0xBF#8 (ruleBlockIo m.1 (m.1.toNat + u.main.l.toNat) u.main.b) m.2 u ∧
          (if repeats = true ∧ s.main.b.toNat ≠ 1 then Ended s.pc 2 21 s u else Ended (s.pc + 2#16) 2 16 s u) ∧
          Except [.main, .calls, .draws] m.2 u
      Outputs .outi 1 false ∧ Outputs .outd 65535 false ∧ Outputs .otir 1 true ∧ Outputs .otdr 65535 true

/-- The memory interface (R11, R61): with no mapper a read answers the byte of the flat array and a write stores there; an
address the host answers reads as the next of its replies, a write it takes changes no byte, and the host sees both; a mapper
that routes every address to the host is any pair of functions. The form of the mapper, the replies and the record of accesses
are the model's choice (logs 6, 7 and 10). -/
def Obligations.MemoryInterface : Prop :=
  (∀ (s : State) (a : Word), s.params.mapper = [] →
      memRead s a = (peek s a, { s with calls := s.calls ++ [.memRead a (peek s a)] }) ∧
        ∀ v, peek (memWrite s a v) a = v ∧ (∀ c, c ≠ a → peek (memWrite s a v) c = peek s c) ∧
          Except [.mem, .calls] s (memWrite s a v)) ∧
    (∀ (s : State) (a c : Word), ReachesCell s a c → ∀ v, (memRead (memWrite s a v) a).1 = v) ∧
    (∀ (s : State) (a : Word) (v : Byte) (rest : List Byte), loadCell s.params.mapper a = none → s.hostReplies = v :: rest →
      memRead s a = (v, { s with hostReplies := rest, calls := s.calls ++ [.memRead a v] })) ∧
    (∀ (s : State) (a : Word) (v : Byte), storeCell s.params.mapper a = none →
      memWrite s a v = { s with calls := s.calls ++ [.memWrite a v] }) ∧
    ∀ a : Word, loadCell [Config.Region.device 0 65536] a = none ∧ storeCell [Config.Region.device 0 65536] a = none
end

