-- ==== Sys2Proof/Laws/State.lean ====
section
/-! SUPPORT. What each operation leaves unchanged, field by field, and what the register accessors read back. -/

namespace Sys2Proof.Machine

variable (s : State)

/-! #### `logCall` -/

@[simp] theorem logCall_main (c : HostCall) : (logCall c s).main = s.main := rfl
@[simp] theorem logCall_alt (c : HostCall) : (logCall c s).alt = s.alt := rfl
@[simp] theorem logCall_ix (c : HostCall) : (logCall c s).ix = s.ix := rfl
@[simp] theorem logCall_iy (c : HostCall) : (logCall c s).iy = s.iy := rfl
@[simp] theorem logCall_sp (c : HostCall) : (logCall c s).sp = s.sp := rfl
@[simp] theorem logCall_pc (c : HostCall) : (logCall c s).pc = s.pc := rfl
@[simp] theorem logCall_i (c : HostCall) : (logCall c s).i = s.i := rfl
@[simp] theorem logCall_r (c : HostCall) : (logCall c s).r = s.r := rfl
@[simp] theorem logCall_iff1 (c : HostCall) : (logCall c s).iff1 = s.iff1 := rfl
@[simp] theorem logCall_iff2 (c : HostCall) : (logCall c s).iff2 = s.iff2 := rfl
@[simp] theorem logCall_im (c : HostCall) : (logCall c s).im = s.im := rfl
@[simp] theorem logCall_intLine (c : HostCall) : (logCall c s).intLine = s.intLine := rfl
@[simp] theorem logCall_intData (c : HostCall) : (logCall c s).intData = s.intData := rfl
@[simp] theorem logCall_nmiPending (c : HostCall) : (logCall c s).nmiPending = s.nmiPending := rfl
@[simp] theorem logCall_eiInhibit (c : HostCall) : (logCall c s).eiInhibit = s.eiInhibit := rfl
@[simp] theorem logCall_afterPrefix (c : HostCall) : (logCall c s).afterPrefix = s.afterPrefix := rfl
@[simp] theorem logCall_halted (c : HostCall) : (logCall c s).halted = s.halted := rfl
@[simp] theorem logCall_cycles (c : HostCall) : (logCall c s).cycles = s.cycles := rfl
@[simp] theorem logCall_fault (c : HostCall) : (logCall c s).fault = s.fault := rfl
@[simp] theorem logCall_mem (c : HostCall) : (logCall c s).mem = s.mem := rfl
@[simp] theorem logCall_params (c : HostCall) : (logCall c s).params = s.params := rfl
@[simp] theorem logCall_status (c : HostCall) : (logCall c s).status = s.status := rfl
@[simp] theorem logCall_hostReplies (c : HostCall) : (logCall c s).hostReplies = s.hostReplies := rfl
@[simp] theorem logCall_draws (c : HostCall) : (logCall c s).draws = s.draws := rfl

@[simp] theorem logCall_calls (c : HostCall) : (logCall c s).calls = s.calls ++ [c] := rfl

/-! #### `m1` -/

@[simp] theorem m1_main (k : Nat) : (m1 k s).main = s.main := rfl
@[simp] theorem m1_alt (k : Nat) : (m1 k s).alt = s.alt := rfl
@[simp] theorem m1_ix (k : Nat) : (m1 k s).ix = s.ix := rfl
@[simp] theorem m1_iy (k : Nat) : (m1 k s).iy = s.iy := rfl
@[simp] theorem m1_sp (k : Nat) : (m1 k s).sp = s.sp := rfl
@[simp] theorem m1_pc (k : Nat) : (m1 k s).pc = s.pc := rfl
@[simp] theorem m1_i (k : Nat) : (m1 k s).i = s.i := rfl
@[simp] theorem m1_iff1 (k : Nat) : (m1 k s).iff1 = s.iff1 := rfl
@[simp] theorem m1_iff2 (k : Nat) : (m1 k s).iff2 = s.iff2 := rfl
@[simp] theorem m1_im (k : Nat) : (m1 k s).im = s.im := rfl
@[simp] theorem m1_intLine (k : Nat) : (m1 k s).intLine = s.intLine := rfl
@[simp] theorem m1_intData (k : Nat) : (m1 k s).intData = s.intData := rfl
@[simp] theorem m1_nmiPending (k : Nat) : (m1 k s).nmiPending = s.nmiPending := rfl
@[simp] theorem m1_eiInhibit (k : Nat) : (m1 k s).eiInhibit = s.eiInhibit := rfl
@[simp] theorem m1_afterPrefix (k : Nat) : (m1 k s).afterPrefix = s.afterPrefix := rfl
@[simp] theorem m1_halted (k : Nat) : (m1 k s).halted = s.halted := rfl
@[simp] theorem m1_cycles (k : Nat) : (m1 k s).cycles = s.cycles := rfl
@[simp] theorem m1_fault (k : Nat) : (m1 k s).fault = s.fault := rfl
@[simp] theorem m1_mem (k : Nat) : (m1 k s).mem = s.mem := rfl
@[simp] theorem m1_params (k : Nat) : (m1 k s).params = s.params := rfl
@[simp] theorem m1_status (k : Nat) : (m1 k s).status = s.status := rfl
@[simp] theorem m1_hostReplies (k : Nat) : (m1 k s).hostReplies = s.hostReplies := rfl
@[simp] theorem m1_calls (k : Nat) : (m1 k s).calls = s.calls := rfl
@[simp] theorem m1_draws (k : Nat) : (m1 k s).draws = s.draws := rfl

@[simp] theorem m1_r (k : Nat) : (m1 k s).r = refresh k s.r := rfl

/-! #### `setMain` -/

@[simp] theorem setMain_alt (g : Regs) : (setMain g s).alt = s.alt := rfl
@[simp] theorem setMain_ix (g : Regs) : (setMain g s).ix = s.ix := rfl
@[simp] theorem setMain_iy (g : Regs) : (setMain g s).iy = s.iy := rfl
@[simp] theorem setMain_sp (g : Regs) : (setMain g s).sp = s.sp := rfl
@[simp] theorem setMain_pc (g : Regs) : (setMain g s).pc = s.pc := rfl
@[simp] theorem setMain_i (g : Regs) : (setMain g s).i = s.i := rfl
@[simp] theorem setMain_r (g : Regs) : (setMain g s).r = s.r := rfl
@[simp] theorem setMain_iff1 (g : Regs) : (setMain g s).iff1 = s.iff1 := rfl
@[simp] theorem setMain_iff2 (g : Regs) : (setMain g s).iff2 = s.iff2 := rfl
@[simp] theorem setMain_im (g : Regs) : (setMain g s).im = s.im := rfl
@[simp] theorem setMain_intLine (g : Regs) : (setMain g s).intLine = s.intLine := rfl
@[simp] theorem setMain_intData (g : Regs) : (setMain g s).intData = s.intData := rfl
@[simp] theorem setMain_nmiPending (g : Regs) : (setMain g s).nmiPending = s.nmiPending := rfl
@[simp] theorem setMain_eiInhibit (g : Regs) : (setMain g s).eiInhibit = s.eiInhibit := rfl
@[simp] theorem setMain_afterPrefix (g : Regs) : (setMain g s).afterPrefix = s.afterPrefix := rfl
@[simp] theorem setMain_halted (g : Regs) : (setMain g s).halted = s.halted := rfl
@[simp] theorem setMain_cycles (g : Regs) : (setMain g s).cycles = s.cycles := rfl
@[simp] theorem setMain_fault (g : Regs) : (setMain g s).fault = s.fault := rfl
@[simp] theorem setMain_mem (g : Regs) : (setMain g s).mem = s.mem := rfl
@[simp] theorem setMain_params (g : Regs) : (setMain g s).params = s.params := rfl
@[simp] theorem setMain_status (g : Regs) : (setMain g s).status = s.status := rfl
@[simp] theorem setMain_hostReplies (g : Regs) : (setMain g s).hostReplies = s.hostReplies := rfl
@[simp] theorem setMain_calls (g : Regs) : (setMain g s).calls = s.calls := rfl
@[simp] theorem setMain_draws (g : Regs) : (setMain g s).draws = s.draws := rfl

@[simp] theorem setMain_main (g : Regs) : (setMain g s).main = g := rfl

/-! #### `setReg` -/

@[simp] theorem setReg_alt (q : Reg8) (v : Byte) : (setReg q v s).alt = s.alt := rfl
@[simp] theorem setReg_ix (q : Reg8) (v : Byte) : (setReg q v s).ix = s.ix := rfl
@[simp] theorem setReg_iy (q : Reg8) (v : Byte) : (setReg q v s).iy = s.iy := rfl
@[simp] theorem setReg_sp (q : Reg8) (v : Byte) : (setReg q v s).sp = s.sp := rfl
@[simp] theorem setReg_pc (q : Reg8) (v : Byte) : (setReg q v s).pc = s.pc := rfl
@[simp] theorem setReg_i (q : Reg8) (v : Byte) : (setReg q v s).i = s.i := rfl
@[simp] theorem setReg_r (q : Reg8) (v : Byte) : (setReg q v s).r = s.r := rfl
@[simp] theorem setReg_iff1 (q : Reg8) (v : Byte) : (setReg q v s).iff1 = s.iff1 := rfl
@[simp] theorem setReg_iff2 (q : Reg8) (v : Byte) : (setReg q v s).iff2 = s.iff2 := rfl
@[simp] theorem setReg_im (q : Reg8) (v : Byte) : (setReg q v s).im = s.im := rfl
@[simp] theorem setReg_intLine (q : Reg8) (v : Byte) : (setReg q v s).intLine = s.intLine := rfl
@[simp] theorem setReg_intData (q : Reg8) (v : Byte) : (setReg q v s).intData = s.intData := rfl
@[simp] theorem setReg_nmiPending (q : Reg8) (v : Byte) : (setReg q v s).nmiPending = s.nmiPending := rfl
@[simp] theorem setReg_eiInhibit (q : Reg8) (v : Byte) : (setReg q v s).eiInhibit = s.eiInhibit := rfl
@[simp] theorem setReg_afterPrefix (q : Reg8) (v : Byte) : (setReg q v s).afterPrefix = s.afterPrefix := rfl
@[simp] theorem setReg_halted (q : Reg8) (v : Byte) : (setReg q v s).halted = s.halted := rfl
@[simp] theorem setReg_cycles (q : Reg8) (v : Byte) : (setReg q v s).cycles = s.cycles := rfl
@[simp] theorem setReg_fault (q : Reg8) (v : Byte) : (setReg q v s).fault = s.fault := rfl
@[simp] theorem setReg_mem (q : Reg8) (v : Byte) : (setReg q v s).mem = s.mem := rfl
@[simp] theorem setReg_params (q : Reg8) (v : Byte) : (setReg q v s).params = s.params := rfl
@[simp] theorem setReg_status (q : Reg8) (v : Byte) : (setReg q v s).status = s.status := rfl
@[simp] theorem setReg_hostReplies (q : Reg8) (v : Byte) : (setReg q v s).hostReplies = s.hostReplies := rfl
@[simp] theorem setReg_calls (q : Reg8) (v : Byte) : (setReg q v s).calls = s.calls := rfl
@[simp] theorem setReg_draws (q : Reg8) (v : Byte) : (setReg q v s).draws = s.draws := rfl

@[simp] theorem setReg_main (q : Reg8) (v : Byte) : (setReg q v s).main = s.main.set q v := rfl

/-! #### `setPair` -/

@[simp] theorem setPair_alt (rr : RegPair) (w : Word) : (setPair rr w s).alt = s.alt := by cases rr <;> rfl
@[simp] theorem setPair_ix (rr : RegPair) (w : Word) : (setPair rr w s).ix = s.ix := by cases rr <;> rfl
@[simp] theorem setPair_iy (rr : RegPair) (w : Word) : (setPair rr w s).iy = s.iy := by cases rr <;> rfl
@[simp] theorem setPair_pc (rr : RegPair) (w : Word) : (setPair rr w s).pc = s.pc := by cases rr <;> rfl
@[simp] theorem setPair_i (rr : RegPair) (w : Word) : (setPair rr w s).i = s.i := by cases rr <;> rfl
@[simp] theorem setPair_r (rr : RegPair) (w : Word) : (setPair rr w s).r = s.r := by cases rr <;> rfl
@[simp] theorem setPair_iff1 (rr : RegPair) (w : Word) : (setPair rr w s).iff1 = s.iff1 := by cases rr <;> rfl
@[simp] theorem setPair_iff2 (rr : RegPair) (w : Word) : (setPair rr w s).iff2 = s.iff2 := by cases rr <;> rfl
@[simp] theorem setPair_im (rr : RegPair) (w : Word) : (setPair rr w s).im = s.im := by cases rr <;> rfl
@[simp] theorem setPair_intLine (rr : RegPair) (w : Word) : (setPair rr w s).intLine = s.intLine := by cases rr <;> rfl
@[simp] theorem setPair_intData (rr : RegPair) (w : Word) : (setPair rr w s).intData = s.intData := by cases rr <;> rfl
@[simp] theorem setPair_nmiPending (rr : RegPair) (w : Word) : (setPair rr w s).nmiPending = s.nmiPending := by cases rr <;> rfl
@[simp] theorem setPair_eiInhibit (rr : RegPair) (w : Word) : (setPair rr w s).eiInhibit = s.eiInhibit := by cases rr <;> rfl
@[simp] theorem setPair_afterPrefix (rr : RegPair) (w : Word) : (setPair rr w s).afterPrefix = s.afterPrefix := by cases rr <;> rfl
@[simp] theorem setPair_halted (rr : RegPair) (w : Word) : (setPair rr w s).halted = s.halted := by cases rr <;> rfl
@[simp] theorem setPair_cycles (rr : RegPair) (w : Word) : (setPair rr w s).cycles = s.cycles := by cases rr <;> rfl
@[simp] theorem setPair_fault (rr : RegPair) (w : Word) : (setPair rr w s).fault = s.fault := by cases rr <;> rfl
@[simp] theorem setPair_mem (rr : RegPair) (w : Word) : (setPair rr w s).mem = s.mem := by cases rr <;> rfl
@[simp] theorem setPair_params (rr : RegPair) (w : Word) : (setPair rr w s).params = s.params := by cases rr <;> rfl
@[simp] theorem setPair_status (rr : RegPair) (w : Word) : (setPair rr w s).status = s.status := by cases rr <;> rfl
@[simp] theorem setPair_hostReplies (rr : RegPair) (w : Word) : (setPair rr w s).hostReplies = s.hostReplies := by cases rr <;> rfl
@[simp] theorem setPair_calls (rr : RegPair) (w : Word) : (setPair rr w s).calls = s.calls := by cases rr <;> rfl
@[simp] theorem setPair_draws (rr : RegPair) (w : Word) : (setPair rr w s).draws = s.draws := by cases rr <;> rfl

/-! #### `setStackPair` -/

@[simp] theorem setStackPair_alt (qq : StackPair) (w : Word) : (setStackPair qq w s).alt = s.alt := by cases qq <;> rfl
@[simp] theorem setStackPair_ix (qq : StackPair) (w : Word) : (setStackPair qq w s).ix = s.ix := by cases qq <;> rfl
@[simp] theorem setStackPair_iy (qq : StackPair) (w : Word) : (setStackPair qq w s).iy = s.iy := by cases qq <;> rfl
@[simp] theorem setStackPair_sp (qq : StackPair) (w : Word) : (setStackPair qq w s).sp = s.sp := by cases qq <;> rfl
@[simp] theorem setStackPair_pc (qq : StackPair) (w : Word) : (setStackPair qq w s).pc = s.pc := by cases qq <;> rfl
@[simp] theorem setStackPair_i (qq : StackPair) (w : Word) : (setStackPair qq w s).i = s.i := by cases qq <;> rfl
@[simp] theorem setStackPair_r (qq : StackPair) (w : Word) : (setStackPair qq w s).r = s.r := by cases qq <;> rfl
@[simp] theorem setStackPair_iff1 (qq : StackPair) (w : Word) : (setStackPair qq w s).iff1 = s.iff1 := by cases qq <;> rfl
@[simp] theorem setStackPair_iff2 (qq : StackPair) (w : Word) : (setStackPair qq w s).iff2 = s.iff2 := by cases qq <;> rfl
@[simp] theorem setStackPair_im (qq : StackPair) (w : Word) : (setStackPair qq w s).im = s.im := by cases qq <;> rfl
@[simp] theorem setStackPair_intLine (qq : StackPair) (w : Word) : (setStackPair qq w s).intLine = s.intLine := by cases qq <;> rfl
@[simp] theorem setStackPair_intData (qq : StackPair) (w : Word) : (setStackPair qq w s).intData = s.intData := by cases qq <;> rfl
@[simp] theorem setStackPair_nmiPending (qq : StackPair) (w : Word) : (setStackPair qq w s).nmiPending = s.nmiPending := by cases qq <;> rfl
@[simp] theorem setStackPair_eiInhibit (qq : StackPair) (w : Word) : (setStackPair qq w s).eiInhibit = s.eiInhibit := by cases qq <;> rfl
@[simp] theorem setStackPair_afterPrefix (qq : StackPair) (w : Word) : (setStackPair qq w s).afterPrefix = s.afterPrefix := by cases qq <;> rfl
@[simp] theorem setStackPair_halted (qq : StackPair) (w : Word) : (setStackPair qq w s).halted = s.halted := by cases qq <;> rfl
@[simp] theorem setStackPair_cycles (qq : StackPair) (w : Word) : (setStackPair qq w s).cycles = s.cycles := by cases qq <;> rfl
@[simp] theorem setStackPair_fault (qq : StackPair) (w : Word) : (setStackPair qq w s).fault = s.fault := by cases qq <;> rfl
@[simp] theorem setStackPair_mem (qq : StackPair) (w : Word) : (setStackPair qq w s).mem = s.mem := by cases qq <;> rfl
@[simp] theorem setStackPair_params (qq : StackPair) (w : Word) : (setStackPair qq w s).params = s.params := by cases qq <;> rfl
@[simp] theorem setStackPair_status (qq : StackPair) (w : Word) : (setStackPair qq w s).status = s.status := by cases qq <;> rfl
@[simp] theorem setStackPair_hostReplies (qq : StackPair) (w : Word) : (setStackPair qq w s).hostReplies = s.hostReplies := by cases qq <;> rfl
@[simp] theorem setStackPair_calls (qq : StackPair) (w : Word) : (setStackPair qq w s).calls = s.calls := by cases qq <;> rfl
@[simp] theorem setStackPair_draws (qq : StackPair) (w : Word) : (setStackPair qq w s).draws = s.draws := by cases qq <;> rfl

/-! #### `setXy` -/

@[simp] theorem setXy_main (xy : IndexReg) (w : Word) : (setXy xy w s).main = s.main := by cases xy <;> rfl
@[simp] theorem setXy_alt (xy : IndexReg) (w : Word) : (setXy xy w s).alt = s.alt := by cases xy <;> rfl
@[simp] theorem setXy_sp (xy : IndexReg) (w : Word) : (setXy xy w s).sp = s.sp := by cases xy <;> rfl
@[simp] theorem setXy_pc (xy : IndexReg) (w : Word) : (setXy xy w s).pc = s.pc := by cases xy <;> rfl
@[simp] theorem setXy_i (xy : IndexReg) (w : Word) : (setXy xy w s).i = s.i := by cases xy <;> rfl
@[simp] theorem setXy_r (xy : IndexReg) (w : Word) : (setXy xy w s).r = s.r := by cases xy <;> rfl
@[simp] theorem setXy_iff1 (xy : IndexReg) (w : Word) : (setXy xy w s).iff1 = s.iff1 := by cases xy <;> rfl
@[simp] theorem setXy_iff2 (xy : IndexReg) (w : Word) : (setXy xy w s).iff2 = s.iff2 := by cases xy <;> rfl
@[simp] theorem setXy_im (xy : IndexReg) (w : Word) : (setXy xy w s).im = s.im := by cases xy <;> rfl
@[simp] theorem setXy_intLine (xy : IndexReg) (w : Word) : (setXy xy w s).intLine = s.intLine := by cases xy <;> rfl
@[simp] theorem setXy_intData (xy : IndexReg) (w : Word) : (setXy xy w s).intData = s.intData := by cases xy <;> rfl
@[simp] theorem setXy_nmiPending (xy : IndexReg) (w : Word) : (setXy xy w s).nmiPending = s.nmiPending := by cases xy <;> rfl
@[simp] theorem setXy_eiInhibit (xy : IndexReg) (w : Word) : (setXy xy w s).eiInhibit = s.eiInhibit := by cases xy <;> rfl
@[simp] theorem setXy_afterPrefix (xy : IndexReg) (w : Word) : (setXy xy w s).afterPrefix = s.afterPrefix := by cases xy <;> rfl
@[simp] theorem setXy_halted (xy : IndexReg) (w : Word) : (setXy xy w s).halted = s.halted := by cases xy <;> rfl
@[simp] theorem setXy_cycles (xy : IndexReg) (w : Word) : (setXy xy w s).cycles = s.cycles := by cases xy <;> rfl
@[simp] theorem setXy_fault (xy : IndexReg) (w : Word) : (setXy xy w s).fault = s.fault := by cases xy <;> rfl
@[simp] theorem setXy_mem (xy : IndexReg) (w : Word) : (setXy xy w s).mem = s.mem := by cases xy <;> rfl
@[simp] theorem setXy_params (xy : IndexReg) (w : Word) : (setXy xy w s).params = s.params := by cases xy <;> rfl
@[simp] theorem setXy_status (xy : IndexReg) (w : Word) : (setXy xy w s).status = s.status := by cases xy <;> rfl
@[simp] theorem setXy_hostReplies (xy : IndexReg) (w : Word) : (setXy xy w s).hostReplies = s.hostReplies := by cases xy <;> rfl
@[simp] theorem setXy_calls (xy : IndexReg) (w : Word) : (setXy xy w s).calls = s.calls := by cases xy <;> rfl
@[simp] theorem setXy_draws (xy : IndexReg) (w : Word) : (setXy xy w s).draws = s.draws := by cases xy <;> rfl

/-! #### `setHalf` -/

@[simp] theorem setHalf_main (xy : IndexReg) (h : Half) (v : Byte) : (setHalf xy h v s).main = s.main := by simp [setHalf]
@[simp] theorem setHalf_alt (xy : IndexReg) (h : Half) (v : Byte) : (setHalf xy h v s).alt = s.alt := by simp [setHalf]
@[simp] theorem setHalf_sp (xy : IndexReg) (h : Half) (v : Byte) : (setHalf xy h v s).sp = s.sp := by simp [setHalf]
@[simp] theorem setHalf_pc (xy : IndexReg) (h : Half) (v : Byte) : (setHalf xy h v s).pc = s.pc := by simp [setHalf]
@[simp] theorem setHalf_i (xy : IndexReg) (h : Half) (v : Byte) : (setHalf xy h v s).i = s.i := by simp [setHalf]
@[simp] theorem setHalf_r (xy : IndexReg) (h : Half) (v : Byte) : (setHalf xy h v s).r = s.r := by simp [setHalf]
@[simp] theorem setHalf_iff1 (xy : IndexReg) (h : Half) (v : Byte) : (setHalf xy h v s).iff1 = s.iff1 := by simp [setHalf]
@[simp] theorem setHalf_iff2 (xy : IndexReg) (h : Half) (v : Byte) : (setHalf xy h v s).iff2 = s.iff2 := by simp [setHalf]
@[simp] theorem setHalf_im (xy : IndexReg) (h : Half) (v : Byte) : (setHalf xy h v s).im = s.im := by simp [setHalf]
@[simp] theorem setHalf_intLine (xy : IndexReg) (h : Half) (v : Byte) : (setHalf xy h v s).intLine = s.intLine := by simp [setHalf]
@[simp] theorem setHalf_intData (xy : IndexReg) (h : Half) (v : Byte) : (setHalf xy h v s).intData = s.intData := by simp [setHalf]
@[simp] theorem setHalf_nmiPending (xy : IndexReg) (h : Half) (v : Byte) : (setHalf xy h v s).nmiPending = s.nmiPending := by simp [setHalf]
@[simp] theorem setHalf_eiInhibit (xy : IndexReg) (h : Half) (v : Byte) : (setHalf xy h v s).eiInhibit = s.eiInhibit := by simp [setHalf]
@[simp] theorem setHalf_afterPrefix (xy : IndexReg) (h : Half) (v : Byte) : (setHalf xy h v s).afterPrefix = s.afterPrefix := by simp [setHalf]
@[simp] theorem setHalf_halted (xy : IndexReg) (h : Half) (v : Byte) : (setHalf xy h v s).halted = s.halted := by simp [setHalf]
@[simp] theorem setHalf_cycles (xy : IndexReg) (h : Half) (v : Byte) : (setHalf xy h v s).cycles = s.cycles := by simp [setHalf]
@[simp] theorem setHalf_fault (xy : IndexReg) (h : Half) (v : Byte) : (setHalf xy h v s).fault = s.fault := by simp [setHalf]
@[simp] theorem setHalf_mem (xy : IndexReg) (h : Half) (v : Byte) : (setHalf xy h v s).mem = s.mem := by simp [setHalf]
@[simp] theorem setHalf_params (xy : IndexReg) (h : Half) (v : Byte) : (setHalf xy h v s).params = s.params := by simp [setHalf]
@[simp] theorem setHalf_status (xy : IndexReg) (h : Half) (v : Byte) : (setHalf xy h v s).status = s.status := by simp [setHalf]
@[simp] theorem setHalf_hostReplies (xy : IndexReg) (h : Half) (v : Byte) : (setHalf xy h v s).hostReplies = s.hostReplies := by simp [setHalf]
@[simp] theorem setHalf_calls (xy : IndexReg) (h : Half) (v : Byte) : (setHalf xy h v s).calls = s.calls := by simp [setHalf]
@[simp] theorem setHalf_draws (xy : IndexReg) (h : Half) (v : Byte) : (setHalf xy h v s).draws = s.draws := by simp [setHalf]

/-! #### `setHalfReg` -/

@[simp] theorem setHalfReg_alt (xy : IndexReg) (q : HalfReg) (v : Byte) : (setHalfReg xy q v s).alt = s.alt := by cases q <;> simp [setHalfReg]
@[simp] theorem setHalfReg_sp (xy : IndexReg) (q : HalfReg) (v : Byte) : (setHalfReg xy q v s).sp = s.sp := by cases q <;> simp [setHalfReg]
@[simp] theorem setHalfReg_pc (xy : IndexReg) (q : HalfReg) (v : Byte) : (setHalfReg xy q v s).pc = s.pc := by cases q <;> simp [setHalfReg]
@[simp] theorem setHalfReg_i (xy : IndexReg) (q : HalfReg) (v : Byte) : (setHalfReg xy q v s).i = s.i := by cases q <;> simp [setHalfReg]
@[simp] theorem setHalfReg_r (xy : IndexReg) (q : HalfReg) (v : Byte) : (setHalfReg xy q v s).r = s.r := by cases q <;> simp [setHalfReg]
@[simp] theorem setHalfReg_iff1 (xy : IndexReg) (q : HalfReg) (v : Byte) : (setHalfReg xy q v s).iff1 = s.iff1 := by cases q <;> simp [setHalfReg]
@[simp] theorem setHalfReg_iff2 (xy : IndexReg) (q : HalfReg) (v : Byte) : (setHalfReg xy q v s).iff2 = s.iff2 := by cases q <;> simp [setHalfReg]
@[simp] theorem setHalfReg_im (xy : IndexReg) (q : HalfReg) (v : Byte) : (setHalfReg xy q v s).im = s.im := by cases q <;> simp [setHalfReg]
@[simp] theorem setHalfReg_intLine (xy : IndexReg) (q : HalfReg) (v : Byte) : (setHalfReg xy q v s).intLine = s.intLine := by cases q <;> simp [setHalfReg]
@[simp] theorem setHalfReg_intData (xy : IndexReg) (q : HalfReg) (v : Byte) : (setHalfReg xy q v s).intData = s.intData := by cases q <;> simp [setHalfReg]
@[simp] theorem setHalfReg_nmiPending (xy : IndexReg) (q : HalfReg) (v : Byte) : (setHalfReg xy q v s).nmiPending = s.nmiPending := by cases q <;> simp [setHalfReg]
@[simp] theorem setHalfReg_eiInhibit (xy : IndexReg) (q : HalfReg) (v : Byte) : (setHalfReg xy q v s).eiInhibit = s.eiInhibit := by cases q <;> simp [setHalfReg]
@[simp] theorem setHalfReg_afterPrefix (xy : IndexReg) (q : HalfReg) (v : Byte) : (setHalfReg xy q v s).afterPrefix = s.afterPrefix := by cases q <;> simp [setHalfReg]
@[simp] theorem setHalfReg_halted (xy : IndexReg) (q : HalfReg) (v : Byte) : (setHalfReg xy q v s).halted = s.halted := by cases q <;> simp [setHalfReg]
@[simp] theorem setHalfReg_cycles (xy : IndexReg) (q : HalfReg) (v : Byte) : (setHalfReg xy q v s).cycles = s.cycles := by cases q <;> simp [setHalfReg]
@[simp] theorem setHalfReg_fault (xy : IndexReg) (q : HalfReg) (v : Byte) : (setHalfReg xy q v s).fault = s.fault := by cases q <;> simp [setHalfReg]
@[simp] theorem setHalfReg_mem (xy : IndexReg) (q : HalfReg) (v : Byte) : (setHalfReg xy q v s).mem = s.mem := by cases q <;> simp [setHalfReg]
@[simp] theorem setHalfReg_params (xy : IndexReg) (q : HalfReg) (v : Byte) : (setHalfReg xy q v s).params = s.params := by cases q <;> simp [setHalfReg]
@[simp] theorem setHalfReg_status (xy : IndexReg) (q : HalfReg) (v : Byte) : (setHalfReg xy q v s).status = s.status := by cases q <;> simp [setHalfReg]
@[simp] theorem setHalfReg_hostReplies (xy : IndexReg) (q : HalfReg) (v : Byte) : (setHalfReg xy q v s).hostReplies = s.hostReplies := by cases q <;> simp [setHalfReg]
@[simp] theorem setHalfReg_calls (xy : IndexReg) (q : HalfReg) (v : Byte) : (setHalfReg xy q v s).calls = s.calls := by cases q <;> simp [setHalfReg]
@[simp] theorem setHalfReg_draws (xy : IndexReg) (q : HalfReg) (v : Byte) : (setHalfReg xy q v s).draws = s.draws := by cases q <;> simp [setHalfReg]

/-! #### `putFlags` -/

@[simp] theorem putFlags_alt (mask : Byte) (b : FlagBits) : (putFlags mask b s).alt = s.alt := by unfold putFlags; split <;> rfl
@[simp] theorem putFlags_ix (mask : Byte) (b : FlagBits) : (putFlags mask b s).ix = s.ix := by unfold putFlags; split <;> rfl
@[simp] theorem putFlags_iy (mask : Byte) (b : FlagBits) : (putFlags mask b s).iy = s.iy := by unfold putFlags; split <;> rfl
@[simp] theorem putFlags_sp (mask : Byte) (b : FlagBits) : (putFlags mask b s).sp = s.sp := by unfold putFlags; split <;> rfl
@[simp] theorem putFlags_pc (mask : Byte) (b : FlagBits) : (putFlags mask b s).pc = s.pc := by unfold putFlags; split <;> rfl
@[simp] theorem putFlags_i (mask : Byte) (b : FlagBits) : (putFlags mask b s).i = s.i := by unfold putFlags; split <;> rfl
@[simp] theorem putFlags_r (mask : Byte) (b : FlagBits) : (putFlags mask b s).r = s.r := by unfold putFlags; split <;> rfl
@[simp] theorem putFlags_iff1 (mask : Byte) (b : FlagBits) : (putFlags mask b s).iff1 = s.iff1 := by unfold putFlags; split <;> rfl
@[simp] theorem putFlags_iff2 (mask : Byte) (b : FlagBits) : (putFlags mask b s).iff2 = s.iff2 := by unfold putFlags; split <;> rfl
@[simp] theorem putFlags_im (mask : Byte) (b : FlagBits) : (putFlags mask b s).im = s.im := by unfold putFlags; split <;> rfl
@[simp] theorem putFlags_intLine (mask : Byte) (b : FlagBits) : (putFlags mask b s).intLine = s.intLine := by unfold putFlags; split <;> rfl
@[simp] theorem putFlags_intData (mask : Byte) (b : FlagBits) : (putFlags mask b s).intData = s.intData := by unfold putFlags; split <;> rfl
@[simp] theorem putFlags_nmiPending (mask : Byte) (b : FlagBits) : (putFlags mask b s).nmiPending = s.nmiPending := by unfold putFlags; split <;> rfl
@[simp] theorem putFlags_eiInhibit (mask : Byte) (b : FlagBits) : (putFlags mask b s).eiInhibit = s.eiInhibit := by unfold putFlags; split <;> rfl
@[simp] theorem putFlags_afterPrefix (mask : Byte) (b : FlagBits) : (putFlags mask b s).afterPrefix = s.afterPrefix := by unfold putFlags; split <;> rfl
@[simp] theorem putFlags_halted (mask : Byte) (b : FlagBits) : (putFlags mask b s).halted = s.halted := by unfold putFlags; split <;> rfl
@[simp] theorem putFlags_cycles (mask : Byte) (b : FlagBits) : (putFlags mask b s).cycles = s.cycles := by unfold putFlags; split <;> rfl
@[simp] theorem putFlags_fault (mask : Byte) (b : FlagBits) : (putFlags mask b s).fault = s.fault := by unfold putFlags; split <;> rfl
@[simp] theorem putFlags_mem (mask : Byte) (b : FlagBits) : (putFlags mask b s).mem = s.mem := by unfold putFlags; split <;> rfl
@[simp] theorem putFlags_params (mask : Byte) (b : FlagBits) : (putFlags mask b s).params = s.params := by unfold putFlags; split <;> rfl
@[simp] theorem putFlags_status (mask : Byte) (b : FlagBits) : (putFlags mask b s).status = s.status := by unfold putFlags; split <;> rfl
@[simp] theorem putFlags_hostReplies (mask : Byte) (b : FlagBits) : (putFlags mask b s).hostReplies = s.hostReplies := by unfold putFlags; split <;> rfl
@[simp] theorem putFlags_calls (mask : Byte) (b : FlagBits) : (putFlags mask b s).calls = s.calls := by unfold putFlags; split <;> rfl

/-! #### `putFlagsFree` -/

@[simp] theorem putFlagsFree_alt (mask : Byte) (b : FlagBits) : (putFlagsFree mask b s).alt = s.alt := rfl
@[simp] theorem putFlagsFree_ix (mask : Byte) (b : FlagBits) : (putFlagsFree mask b s).ix = s.ix := rfl
@[simp] theorem putFlagsFree_iy (mask : Byte) (b : FlagBits) : (putFlagsFree mask b s).iy = s.iy := rfl
@[simp] theorem putFlagsFree_sp (mask : Byte) (b : FlagBits) : (putFlagsFree mask b s).sp = s.sp := rfl
@[simp] theorem putFlagsFree_pc (mask : Byte) (b : FlagBits) : (putFlagsFree mask b s).pc = s.pc := rfl
@[simp] theorem putFlagsFree_i (mask : Byte) (b : FlagBits) : (putFlagsFree mask b s).i = s.i := rfl
@[simp] theorem putFlagsFree_r (mask : Byte) (b : FlagBits) : (putFlagsFree mask b s).r = s.r := rfl
@[simp] theorem putFlagsFree_iff1 (mask : Byte) (b : FlagBits) : (putFlagsFree mask b s).iff1 = s.iff1 := rfl
@[simp] theorem putFlagsFree_iff2 (mask : Byte) (b : FlagBits) : (putFlagsFree mask b s).iff2 = s.iff2 := rfl
@[simp] theorem putFlagsFree_im (mask : Byte) (b : FlagBits) : (putFlagsFree mask b s).im = s.im := rfl
@[simp] theorem putFlagsFree_intLine (mask : Byte) (b : FlagBits) : (putFlagsFree mask b s).intLine = s.intLine := rfl
@[simp] theorem putFlagsFree_intData (mask : Byte) (b : FlagBits) : (putFlagsFree mask b s).intData = s.intData := rfl
@[simp] theorem putFlagsFree_nmiPending (mask : Byte) (b : FlagBits) : (putFlagsFree mask b s).nmiPending = s.nmiPending := rfl
@[simp] theorem putFlagsFree_eiInhibit (mask : Byte) (b : FlagBits) : (putFlagsFree mask b s).eiInhibit = s.eiInhibit := rfl
@[simp] theorem putFlagsFree_afterPrefix (mask : Byte) (b : FlagBits) : (putFlagsFree mask b s).afterPrefix = s.afterPrefix := rfl
@[simp] theorem putFlagsFree_halted (mask : Byte) (b : FlagBits) : (putFlagsFree mask b s).halted = s.halted := rfl
@[simp] theorem putFlagsFree_cycles (mask : Byte) (b : FlagBits) : (putFlagsFree mask b s).cycles = s.cycles := rfl
@[simp] theorem putFlagsFree_fault (mask : Byte) (b : FlagBits) : (putFlagsFree mask b s).fault = s.fault := rfl
@[simp] theorem putFlagsFree_mem (mask : Byte) (b : FlagBits) : (putFlagsFree mask b s).mem = s.mem := rfl
@[simp] theorem putFlagsFree_params (mask : Byte) (b : FlagBits) : (putFlagsFree mask b s).params = s.params := rfl
@[simp] theorem putFlagsFree_status (mask : Byte) (b : FlagBits) : (putFlagsFree mask b s).status = s.status := rfl
@[simp] theorem putFlagsFree_hostReplies (mask : Byte) (b : FlagBits) : (putFlagsFree mask b s).hostReplies = s.hostReplies := rfl
@[simp] theorem putFlagsFree_calls (mask : Byte) (b : FlagBits) : (putFlagsFree mask b s).calls = s.calls := rfl

/-! #### `hostByte` -/

@[simp] theorem hostByte_main : ((hostByte s).2).main = s.main := by unfold hostByte; split <;> rfl
@[simp] theorem hostByte_alt : ((hostByte s).2).alt = s.alt := by unfold hostByte; split <;> rfl
@[simp] theorem hostByte_ix : ((hostByte s).2).ix = s.ix := by unfold hostByte; split <;> rfl
@[simp] theorem hostByte_iy : ((hostByte s).2).iy = s.iy := by unfold hostByte; split <;> rfl
@[simp] theorem hostByte_sp : ((hostByte s).2).sp = s.sp := by unfold hostByte; split <;> rfl
@[simp] theorem hostByte_pc : ((hostByte s).2).pc = s.pc := by unfold hostByte; split <;> rfl
@[simp] theorem hostByte_i : ((hostByte s).2).i = s.i := by unfold hostByte; split <;> rfl
@[simp] theorem hostByte_r : ((hostByte s).2).r = s.r := by unfold hostByte; split <;> rfl
@[simp] theorem hostByte_iff1 : ((hostByte s).2).iff1 = s.iff1 := by unfold hostByte; split <;> rfl
@[simp] theorem hostByte_iff2 : ((hostByte s).2).iff2 = s.iff2 := by unfold hostByte; split <;> rfl
@[simp] theorem hostByte_im : ((hostByte s).2).im = s.im := by unfold hostByte; split <;> rfl
@[simp] theorem hostByte_intLine : ((hostByte s).2).intLine = s.intLine := by unfold hostByte; split <;> rfl
@[simp] theorem hostByte_intData : ((hostByte s).2).intData = s.intData := by unfold hostByte; split <;> rfl
@[simp] theorem hostByte_nmiPending : ((hostByte s).2).nmiPending = s.nmiPending := by unfold hostByte; split <;> rfl
@[simp] theorem hostByte_eiInhibit : ((hostByte s).2).eiInhibit = s.eiInhibit := by unfold hostByte; split <;> rfl
@[simp] theorem hostByte_afterPrefix : ((hostByte s).2).afterPrefix = s.afterPrefix := by unfold hostByte; split <;> rfl
@[simp] theorem hostByte_halted : ((hostByte s).2).halted = s.halted := by unfold hostByte; split <;> rfl
@[simp] theorem hostByte_cycles : ((hostByte s).2).cycles = s.cycles := by unfold hostByte; split <;> rfl
@[simp] theorem hostByte_fault : ((hostByte s).2).fault = s.fault := by unfold hostByte; split <;> rfl
@[simp] theorem hostByte_mem : ((hostByte s).2).mem = s.mem := by unfold hostByte; split <;> rfl
@[simp] theorem hostByte_params : ((hostByte s).2).params = s.params := by unfold hostByte; split <;> rfl
@[simp] theorem hostByte_status : ((hostByte s).2).status = s.status := by unfold hostByte; split <;> rfl
@[simp] theorem hostByte_calls : ((hostByte s).2).calls = s.calls := by unfold hostByte; split <;> rfl

/-! #### `memRead` -/

@[simp] theorem memRead_main (a : Word) : ((memRead s a).2).main = s.main := by unfold memRead; split <;> simp
@[simp] theorem memRead_alt (a : Word) : ((memRead s a).2).alt = s.alt := by unfold memRead; split <;> simp
@[simp] theorem memRead_ix (a : Word) : ((memRead s a).2).ix = s.ix := by unfold memRead; split <;> simp
@[simp] theorem memRead_iy (a : Word) : ((memRead s a).2).iy = s.iy := by unfold memRead; split <;> simp
@[simp] theorem memRead_sp (a : Word) : ((memRead s a).2).sp = s.sp := by unfold memRead; split <;> simp
@[simp] theorem memRead_pc (a : Word) : ((memRead s a).2).pc = s.pc := by unfold memRead; split <;> simp
@[simp] theorem memRead_i (a : Word) : ((memRead s a).2).i = s.i := by unfold memRead; split <;> simp
@[simp] theorem memRead_r (a : Word) : ((memRead s a).2).r = s.r := by unfold memRead; split <;> simp
@[simp] theorem memRead_iff1 (a : Word) : ((memRead s a).2).iff1 = s.iff1 := by unfold memRead; split <;> simp
@[simp] theorem memRead_iff2 (a : Word) : ((memRead s a).2).iff2 = s.iff2 := by unfold memRead; split <;> simp
@[simp] theorem memRead_im (a : Word) : ((memRead s a).2).im = s.im := by unfold memRead; split <;> simp
@[simp] theorem memRead_intLine (a : Word) : ((memRead s a).2).intLine = s.intLine := by unfold memRead; split <;> simp
@[simp] theorem memRead_intData (a : Word) : ((memRead s a).2).intData = s.intData := by unfold memRead; split <;> simp
@[simp] theorem memRead_nmiPending (a : Word) : ((memRead s a).2).nmiPending = s.nmiPending := by unfold memRead; split <;> simp
@[simp] theorem memRead_eiInhibit (a : Word) : ((memRead s a).2).eiInhibit = s.eiInhibit := by unfold memRead; split <;> simp
@[simp] theorem memRead_afterPrefix (a : Word) : ((memRead s a).2).afterPrefix = s.afterPrefix := by unfold memRead; split <;> simp
@[simp] theorem memRead_halted (a : Word) : ((memRead s a).2).halted = s.halted := by unfold memRead; split <;> simp
@[simp] theorem memRead_cycles (a : Word) : ((memRead s a).2).cycles = s.cycles := by unfold memRead; split <;> simp
@[simp] theorem memRead_fault (a : Word) : ((memRead s a).2).fault = s.fault := by unfold memRead; split <;> simp
@[simp] theorem memRead_mem (a : Word) : ((memRead s a).2).mem = s.mem := by unfold memRead; split <;> simp
@[simp] theorem memRead_params (a : Word) : ((memRead s a).2).params = s.params := by unfold memRead; split <;> simp
@[simp] theorem memRead_status (a : Word) : ((memRead s a).2).status = s.status := by unfold memRead; split <;> simp

/-! #### `memWrite` -/

@[simp] theorem memWrite_main (a : Word) (v : Byte) : (memWrite s a v).main = s.main := by unfold memWrite; split <;> rfl
@[simp] theorem memWrite_alt (a : Word) (v : Byte) : (memWrite s a v).alt = s.alt := by unfold memWrite; split <;> rfl
@[simp] theorem memWrite_ix (a : Word) (v : Byte) : (memWrite s a v).ix = s.ix := by unfold memWrite; split <;> rfl
@[simp] theorem memWrite_iy (a : Word) (v : Byte) : (memWrite s a v).iy = s.iy := by unfold memWrite; split <;> rfl
@[simp] theorem memWrite_sp (a : Word) (v : Byte) : (memWrite s a v).sp = s.sp := by unfold memWrite; split <;> rfl
@[simp] theorem memWrite_pc (a : Word) (v : Byte) : (memWrite s a v).pc = s.pc := by unfold memWrite; split <;> rfl
@[simp] theorem memWrite_i (a : Word) (v : Byte) : (memWrite s a v).i = s.i := by unfold memWrite; split <;> rfl
@[simp] theorem memWrite_r (a : Word) (v : Byte) : (memWrite s a v).r = s.r := by unfold memWrite; split <;> rfl
@[simp] theorem memWrite_iff1 (a : Word) (v : Byte) : (memWrite s a v).iff1 = s.iff1 := by unfold memWrite; split <;> rfl
@[simp] theorem memWrite_iff2 (a : Word) (v : Byte) : (memWrite s a v).iff2 = s.iff2 := by unfold memWrite; split <;> rfl
@[simp] theorem memWrite_im (a : Word) (v : Byte) : (memWrite s a v).im = s.im := by unfold memWrite; split <;> rfl
@[simp] theorem memWrite_intLine (a : Word) (v : Byte) : (memWrite s a v).intLine = s.intLine := by unfold memWrite; split <;> rfl
@[simp] theorem memWrite_intData (a : Word) (v : Byte) : (memWrite s a v).intData = s.intData := by unfold memWrite; split <;> rfl
@[simp] theorem memWrite_nmiPending (a : Word) (v : Byte) : (memWrite s a v).nmiPending = s.nmiPending := by unfold memWrite; split <;> rfl
@[simp] theorem memWrite_eiInhibit (a : Word) (v : Byte) : (memWrite s a v).eiInhibit = s.eiInhibit := by unfold memWrite; split <;> rfl
@[simp] theorem memWrite_afterPrefix (a : Word) (v : Byte) : (memWrite s a v).afterPrefix = s.afterPrefix := by unfold memWrite; split <;> rfl
@[simp] theorem memWrite_halted (a : Word) (v : Byte) : (memWrite s a v).halted = s.halted := by unfold memWrite; split <;> rfl
@[simp] theorem memWrite_cycles (a : Word) (v : Byte) : (memWrite s a v).cycles = s.cycles := by unfold memWrite; split <;> rfl
@[simp] theorem memWrite_fault (a : Word) (v : Byte) : (memWrite s a v).fault = s.fault := by unfold memWrite; split <;> rfl
@[simp] theorem memWrite_params (a : Word) (v : Byte) : (memWrite s a v).params = s.params := by unfold memWrite; split <;> rfl
@[simp] theorem memWrite_status (a : Word) (v : Byte) : (memWrite s a v).status = s.status := by unfold memWrite; split <;> rfl
@[simp] theorem memWrite_hostReplies (a : Word) (v : Byte) : (memWrite s a v).hostReplies = s.hostReplies := by unfold memWrite; split <;> rfl
@[simp] theorem memWrite_draws (a : Word) (v : Byte) : (memWrite s a v).draws = s.draws := by unfold memWrite; split <;> rfl

/-! #### `memRead16` -/

@[simp] theorem memRead16_main (a : Word) : ((memRead16 s a).2).main = s.main := by simp [memRead16]
@[simp] theorem memRead16_alt (a : Word) : ((memRead16 s a).2).alt = s.alt := by simp [memRead16]
@[simp] theorem memRead16_ix (a : Word) : ((memRead16 s a).2).ix = s.ix := by simp [memRead16]
@[simp] theorem memRead16_iy (a : Word) : ((memRead16 s a).2).iy = s.iy := by simp [memRead16]
@[simp] theorem memRead16_sp (a : Word) : ((memRead16 s a).2).sp = s.sp := by simp [memRead16]
@[simp] theorem memRead16_pc (a : Word) : ((memRead16 s a).2).pc = s.pc := by simp [memRead16]
@[simp] theorem memRead16_i (a : Word) : ((memRead16 s a).2).i = s.i := by simp [memRead16]
@[simp] theorem memRead16_r (a : Word) : ((memRead16 s a).2).r = s.r := by simp [memRead16]
@[simp] theorem memRead16_iff1 (a : Word) : ((memRead16 s a).2).iff1 = s.iff1 := by simp [memRead16]
@[simp] theorem memRead16_iff2 (a : Word) : ((memRead16 s a).2).iff2 = s.iff2 := by simp [memRead16]
@[simp] theorem memRead16_im (a : Word) : ((memRead16 s a).2).im = s.im := by simp [memRead16]
@[simp] theorem memRead16_intLine (a : Word) : ((memRead16 s a).2).intLine = s.intLine := by simp [memRead16]
@[simp] theorem memRead16_intData (a : Word) : ((memRead16 s a).2).intData = s.intData := by simp [memRead16]
@[simp] theorem memRead16_nmiPending (a : Word) : ((memRead16 s a).2).nmiPending = s.nmiPending := by simp [memRead16]
@[simp] theorem memRead16_eiInhibit (a : Word) : ((memRead16 s a).2).eiInhibit = s.eiInhibit := by simp [memRead16]
@[simp] theorem memRead16_afterPrefix (a : Word) : ((memRead16 s a).2).afterPrefix = s.afterPrefix := by simp [memRead16]
@[simp] theorem memRead16_halted (a : Word) : ((memRead16 s a).2).halted = s.halted := by simp [memRead16]
@[simp] theorem memRead16_cycles (a : Word) : ((memRead16 s a).2).cycles = s.cycles := by simp [memRead16]
@[simp] theorem memRead16_fault (a : Word) : ((memRead16 s a).2).fault = s.fault := by simp [memRead16]
@[simp] theorem memRead16_mem (a : Word) : ((memRead16 s a).2).mem = s.mem := by simp [memRead16]
@[simp] theorem memRead16_params (a : Word) : ((memRead16 s a).2).params = s.params := by simp [memRead16]
@[simp] theorem memRead16_status (a : Word) : ((memRead16 s a).2).status = s.status := by simp [memRead16]

/-! #### `memWrite16` -/

@[simp] theorem memWrite16_main (a v : Word) : (memWrite16 s a v).main = s.main := by simp [memWrite16]
@[simp] theorem memWrite16_alt (a v : Word) : (memWrite16 s a v).alt = s.alt := by simp [memWrite16]
@[simp] theorem memWrite16_ix (a v : Word) : (memWrite16 s a v).ix = s.ix := by simp [memWrite16]
@[simp] theorem memWrite16_iy (a v : Word) : (memWrite16 s a v).iy = s.iy := by simp [memWrite16]
@[simp] theorem memWrite16_sp (a v : Word) : (memWrite16 s a v).sp = s.sp := by simp [memWrite16]
@[simp] theorem memWrite16_pc (a v : Word) : (memWrite16 s a v).pc = s.pc := by simp [memWrite16]
@[simp] theorem memWrite16_i (a v : Word) : (memWrite16 s a v).i = s.i := by simp [memWrite16]
@[simp] theorem memWrite16_r (a v : Word) : (memWrite16 s a v).r = s.r := by simp [memWrite16]
@[simp] theorem memWrite16_iff1 (a v : Word) : (memWrite16 s a v).iff1 = s.iff1 := by simp [memWrite16]
@[simp] theorem memWrite16_iff2 (a v : Word) : (memWrite16 s a v).iff2 = s.iff2 := by simp [memWrite16]
@[simp] theorem memWrite16_im (a v : Word) : (memWrite16 s a v).im = s.im := by simp [memWrite16]
@[simp] theorem memWrite16_intLine (a v : Word) : (memWrite16 s a v).intLine = s.intLine := by simp [memWrite16]
@[simp] theorem memWrite16_intData (a v : Word) : (memWrite16 s a v).intData = s.intData := by simp [memWrite16]
@[simp] theorem memWrite16_nmiPending (a v : Word) : (memWrite16 s a v).nmiPending = s.nmiPending := by simp [memWrite16]
@[simp] theorem memWrite16_eiInhibit (a v : Word) : (memWrite16 s a v).eiInhibit = s.eiInhibit := by simp [memWrite16]
@[simp] theorem memWrite16_afterPrefix (a v : Word) : (memWrite16 s a v).afterPrefix = s.afterPrefix := by simp [memWrite16]
@[simp] theorem memWrite16_halted (a v : Word) : (memWrite16 s a v).halted = s.halted := by simp [memWrite16]
@[simp] theorem memWrite16_cycles (a v : Word) : (memWrite16 s a v).cycles = s.cycles := by simp [memWrite16]
@[simp] theorem memWrite16_fault (a v : Word) : (memWrite16 s a v).fault = s.fault := by simp [memWrite16]
@[simp] theorem memWrite16_params (a v : Word) : (memWrite16 s a v).params = s.params := by simp [memWrite16]
@[simp] theorem memWrite16_status (a v : Word) : (memWrite16 s a v).status = s.status := by simp [memWrite16]
@[simp] theorem memWrite16_hostReplies (a v : Word) : (memWrite16 s a v).hostReplies = s.hostReplies := by simp [memWrite16]
@[simp] theorem memWrite16_draws (a v : Word) : (memWrite16 s a v).draws = s.draws := by simp [memWrite16]

/-! #### `push16` -/

@[simp] theorem push16_main (v : Word) : (push16 v s).main = s.main := by simp [push16]
@[simp] theorem push16_alt (v : Word) : (push16 v s).alt = s.alt := by simp [push16]
@[simp] theorem push16_ix (v : Word) : (push16 v s).ix = s.ix := by simp [push16]
@[simp] theorem push16_iy (v : Word) : (push16 v s).iy = s.iy := by simp [push16]
@[simp] theorem push16_pc (v : Word) : (push16 v s).pc = s.pc := by simp [push16]
@[simp] theorem push16_i (v : Word) : (push16 v s).i = s.i := by simp [push16]
@[simp] theorem push16_r (v : Word) : (push16 v s).r = s.r := by simp [push16]
@[simp] theorem push16_iff1 (v : Word) : (push16 v s).iff1 = s.iff1 := by simp [push16]
@[simp] theorem push16_iff2 (v : Word) : (push16 v s).iff2 = s.iff2 := by simp [push16]
@[simp] theorem push16_im (v : Word) : (push16 v s).im = s.im := by simp [push16]
@[simp] theorem push16_intLine (v : Word) : (push16 v s).intLine = s.intLine := by simp [push16]
@[simp] theorem push16_intData (v : Word) : (push16 v s).intData = s.intData := by simp [push16]
@[simp] theorem push16_nmiPending (v : Word) : (push16 v s).nmiPending = s.nmiPending := by simp [push16]
@[simp] theorem push16_eiInhibit (v : Word) : (push16 v s).eiInhibit = s.eiInhibit := by simp [push16]
@[simp] theorem push16_afterPrefix (v : Word) : (push16 v s).afterPrefix = s.afterPrefix := by simp [push16]
@[simp] theorem push16_halted (v : Word) : (push16 v s).halted = s.halted := by simp [push16]
@[simp] theorem push16_cycles (v : Word) : (push16 v s).cycles = s.cycles := by simp [push16]
@[simp] theorem push16_fault (v : Word) : (push16 v s).fault = s.fault := by simp [push16]
@[simp] theorem push16_params (v : Word) : (push16 v s).params = s.params := by simp [push16]
@[simp] theorem push16_status (v : Word) : (push16 v s).status = s.status := by simp [push16]
@[simp] theorem push16_hostReplies (v : Word) : (push16 v s).hostReplies = s.hostReplies := by simp [push16]
@[simp] theorem push16_draws (v : Word) : (push16 v s).draws = s.draws := by simp [push16]

@[simp] theorem push16_sp (v : Word) : (push16 v s).sp = s.sp - 2#16 := rfl

/-! #### `pop16` -/

@[simp] theorem pop16_main : ((pop16 s).2).main = s.main := by simp [pop16]
@[simp] theorem pop16_alt : ((pop16 s).2).alt = s.alt := by simp [pop16]
@[simp] theorem pop16_ix : ((pop16 s).2).ix = s.ix := by simp [pop16]
@[simp] theorem pop16_iy : ((pop16 s).2).iy = s.iy := by simp [pop16]
@[simp] theorem pop16_pc : ((pop16 s).2).pc = s.pc := by simp [pop16]
@[simp] theorem pop16_i : ((pop16 s).2).i = s.i := by simp [pop16]
@[simp] theorem pop16_r : ((pop16 s).2).r = s.r := by simp [pop16]
@[simp] theorem pop16_iff1 : ((pop16 s).2).iff1 = s.iff1 := by simp [pop16]
@[simp] theorem pop16_iff2 : ((pop16 s).2).iff2 = s.iff2 := by simp [pop16]
@[simp] theorem pop16_im : ((pop16 s).2).im = s.im := by simp [pop16]
@[simp] theorem pop16_intLine : ((pop16 s).2).intLine = s.intLine := by simp [pop16]
@[simp] theorem pop16_intData : ((pop16 s).2).intData = s.intData := by simp [pop16]
@[simp] theorem pop16_nmiPending : ((pop16 s).2).nmiPending = s.nmiPending := by simp [pop16]
@[simp] theorem pop16_eiInhibit : ((pop16 s).2).eiInhibit = s.eiInhibit := by simp [pop16]
@[simp] theorem pop16_afterPrefix : ((pop16 s).2).afterPrefix = s.afterPrefix := by simp [pop16]
@[simp] theorem pop16_halted : ((pop16 s).2).halted = s.halted := by simp [pop16]
@[simp] theorem pop16_cycles : ((pop16 s).2).cycles = s.cycles := by simp [pop16]
@[simp] theorem pop16_fault : ((pop16 s).2).fault = s.fault := by simp [pop16]
@[simp] theorem pop16_mem : ((pop16 s).2).mem = s.mem := by simp [pop16]
@[simp] theorem pop16_params : ((pop16 s).2).params = s.params := by simp [pop16]
@[simp] theorem pop16_status : ((pop16 s).2).status = s.status := by simp [pop16]

@[simp] theorem pop16_sp : (pop16 s).2.sp = s.sp + 2#16 := rfl

/-! #### `ioRead` -/

@[simp] theorem ioRead_main (p : Word) : ((ioRead s p).2).main = s.main := by simp [ioRead]
@[simp] theorem ioRead_alt (p : Word) : ((ioRead s p).2).alt = s.alt := by simp [ioRead]
@[simp] theorem ioRead_ix (p : Word) : ((ioRead s p).2).ix = s.ix := by simp [ioRead]
@[simp] theorem ioRead_iy (p : Word) : ((ioRead s p).2).iy = s.iy := by simp [ioRead]
@[simp] theorem ioRead_sp (p : Word) : ((ioRead s p).2).sp = s.sp := by simp [ioRead]
@[simp] theorem ioRead_pc (p : Word) : ((ioRead s p).2).pc = s.pc := by simp [ioRead]
@[simp] theorem ioRead_i (p : Word) : ((ioRead s p).2).i = s.i := by simp [ioRead]
@[simp] theorem ioRead_r (p : Word) : ((ioRead s p).2).r = s.r := by simp [ioRead]
@[simp] theorem ioRead_iff1 (p : Word) : ((ioRead s p).2).iff1 = s.iff1 := by simp [ioRead]
@[simp] theorem ioRead_iff2 (p : Word) : ((ioRead s p).2).iff2 = s.iff2 := by simp [ioRead]
@[simp] theorem ioRead_im (p : Word) : ((ioRead s p).2).im = s.im := by simp [ioRead]
@[simp] theorem ioRead_intLine (p : Word) : ((ioRead s p).2).intLine = s.intLine := by simp [ioRead]
@[simp] theorem ioRead_intData (p : Word) : ((ioRead s p).2).intData = s.intData := by simp [ioRead]
@[simp] theorem ioRead_nmiPending (p : Word) : ((ioRead s p).2).nmiPending = s.nmiPending := by simp [ioRead]
@[simp] theorem ioRead_eiInhibit (p : Word) : ((ioRead s p).2).eiInhibit = s.eiInhibit := by simp [ioRead]
@[simp] theorem ioRead_afterPrefix (p : Word) : ((ioRead s p).2).afterPrefix = s.afterPrefix := by simp [ioRead]
@[simp] theorem ioRead_halted (p : Word) : ((ioRead s p).2).halted = s.halted := by simp [ioRead]
@[simp] theorem ioRead_cycles (p : Word) : ((ioRead s p).2).cycles = s.cycles := by simp [ioRead]
@[simp] theorem ioRead_fault (p : Word) : ((ioRead s p).2).fault = s.fault := by simp [ioRead]
@[simp] theorem ioRead_mem (p : Word) : ((ioRead s p).2).mem = s.mem := by simp [ioRead]
@[simp] theorem ioRead_params (p : Word) : ((ioRead s p).2).params = s.params := by simp [ioRead]
@[simp] theorem ioRead_status (p : Word) : ((ioRead s p).2).status = s.status := by simp [ioRead]

/-! #### `ioWrite` -/

@[simp] theorem ioWrite_main (p : Word) (v : Byte) : (ioWrite s p v).main = s.main := rfl
@[simp] theorem ioWrite_alt (p : Word) (v : Byte) : (ioWrite s p v).alt = s.alt := rfl
@[simp] theorem ioWrite_ix (p : Word) (v : Byte) : (ioWrite s p v).ix = s.ix := rfl
@[simp] theorem ioWrite_iy (p : Word) (v : Byte) : (ioWrite s p v).iy = s.iy := rfl
@[simp] theorem ioWrite_sp (p : Word) (v : Byte) : (ioWrite s p v).sp = s.sp := rfl
@[simp] theorem ioWrite_pc (p : Word) (v : Byte) : (ioWrite s p v).pc = s.pc := rfl
@[simp] theorem ioWrite_i (p : Word) (v : Byte) : (ioWrite s p v).i = s.i := rfl
@[simp] theorem ioWrite_r (p : Word) (v : Byte) : (ioWrite s p v).r = s.r := rfl
@[simp] theorem ioWrite_iff1 (p : Word) (v : Byte) : (ioWrite s p v).iff1 = s.iff1 := rfl
@[simp] theorem ioWrite_iff2 (p : Word) (v : Byte) : (ioWrite s p v).iff2 = s.iff2 := rfl
@[simp] theorem ioWrite_im (p : Word) (v : Byte) : (ioWrite s p v).im = s.im := rfl
@[simp] theorem ioWrite_intLine (p : Word) (v : Byte) : (ioWrite s p v).intLine = s.intLine := rfl
@[simp] theorem ioWrite_intData (p : Word) (v : Byte) : (ioWrite s p v).intData = s.intData := rfl
@[simp] theorem ioWrite_nmiPending (p : Word) (v : Byte) : (ioWrite s p v).nmiPending = s.nmiPending := rfl
@[simp] theorem ioWrite_eiInhibit (p : Word) (v : Byte) : (ioWrite s p v).eiInhibit = s.eiInhibit := rfl
@[simp] theorem ioWrite_afterPrefix (p : Word) (v : Byte) : (ioWrite s p v).afterPrefix = s.afterPrefix := rfl
@[simp] theorem ioWrite_halted (p : Word) (v : Byte) : (ioWrite s p v).halted = s.halted := rfl
@[simp] theorem ioWrite_cycles (p : Word) (v : Byte) : (ioWrite s p v).cycles = s.cycles := rfl
@[simp] theorem ioWrite_fault (p : Word) (v : Byte) : (ioWrite s p v).fault = s.fault := rfl
@[simp] theorem ioWrite_mem (p : Word) (v : Byte) : (ioWrite s p v).mem = s.mem := rfl
@[simp] theorem ioWrite_params (p : Word) (v : Byte) : (ioWrite s p v).params = s.params := rfl
@[simp] theorem ioWrite_status (p : Word) (v : Byte) : (ioWrite s p v).status = s.status := rfl
@[simp] theorem ioWrite_hostReplies (p : Word) (v : Byte) : (ioWrite s p v).hostReplies = s.hostReplies := rfl
@[simp] theorem ioWrite_draws (p : Word) (v : Byte) : (ioWrite s p v).draws = s.draws := rfl

@[simp] theorem ioWrite_calls (p : Word) (v : Byte) : (ioWrite s p v).calls = s.calls ++ [.portWrite p v] := rfl

/-! #### `passBoundary` -/

@[simp] theorem passBoundary_main : (passBoundary s).main = s.main := rfl
@[simp] theorem passBoundary_alt : (passBoundary s).alt = s.alt := rfl
@[simp] theorem passBoundary_ix : (passBoundary s).ix = s.ix := rfl
@[simp] theorem passBoundary_iy : (passBoundary s).iy = s.iy := rfl
@[simp] theorem passBoundary_sp : (passBoundary s).sp = s.sp := rfl
@[simp] theorem passBoundary_pc : (passBoundary s).pc = s.pc := rfl
@[simp] theorem passBoundary_i : (passBoundary s).i = s.i := rfl
@[simp] theorem passBoundary_r : (passBoundary s).r = s.r := rfl
@[simp] theorem passBoundary_iff1 : (passBoundary s).iff1 = s.iff1 := rfl
@[simp] theorem passBoundary_iff2 : (passBoundary s).iff2 = s.iff2 := rfl
@[simp] theorem passBoundary_im : (passBoundary s).im = s.im := rfl
@[simp] theorem passBoundary_intLine : (passBoundary s).intLine = s.intLine := rfl
@[simp] theorem passBoundary_intData : (passBoundary s).intData = s.intData := rfl
@[simp] theorem passBoundary_nmiPending : (passBoundary s).nmiPending = s.nmiPending := rfl
@[simp] theorem passBoundary_halted : (passBoundary s).halted = s.halted := rfl
@[simp] theorem passBoundary_cycles : (passBoundary s).cycles = s.cycles := rfl
@[simp] theorem passBoundary_fault : (passBoundary s).fault = s.fault := rfl
@[simp] theorem passBoundary_mem : (passBoundary s).mem = s.mem := rfl
@[simp] theorem passBoundary_params : (passBoundary s).params = s.params := rfl
@[simp] theorem passBoundary_status : (passBoundary s).status = s.status := rfl
@[simp] theorem passBoundary_hostReplies : (passBoundary s).hostReplies = s.hostReplies := rfl
@[simp] theorem passBoundary_draws : (passBoundary s).draws = s.draws := rfl

@[simp] theorem passBoundary_eiInhibit : (passBoundary s).eiInhibit = false := rfl
@[simp] theorem passBoundary_afterPrefix : (passBoundary s).afterPrefix = false := rfl
@[simp] theorem passBoundary_calls : (passBoundary s).calls = [] := rfl

/-! #### Registers of a set -/

@[simp] theorem putFlags_main_a (mask : Byte) (b : FlagBits) : (putFlags mask b s).main.a = s.main.a := by
  unfold putFlags; split <;> rfl
@[simp] theorem putFlagsFree_main_a (mask : Byte) (b : FlagBits) :
    (putFlagsFree mask b s).main.a = s.main.a := rfl
@[simp] theorem putFlags_main_b (mask : Byte) (b : FlagBits) : (putFlags mask b s).main.b = s.main.b := by
  unfold putFlags; split <;> rfl
@[simp] theorem putFlagsFree_main_b (mask : Byte) (b : FlagBits) :
    (putFlagsFree mask b s).main.b = s.main.b := rfl
@[simp] theorem putFlags_main_c (mask : Byte) (b : FlagBits) : (putFlags mask b s).main.c = s.main.c := by
  unfold putFlags; split <;> rfl
@[simp] theorem putFlagsFree_main_c (mask : Byte) (b : FlagBits) :
    (putFlagsFree mask b s).main.c = s.main.c := rfl
@[simp] theorem putFlags_main_d (mask : Byte) (b : FlagBits) : (putFlags mask b s).main.d = s.main.d := by
  unfold putFlags; split <;> rfl
@[simp] theorem putFlagsFree_main_d (mask : Byte) (b : FlagBits) :
    (putFlagsFree mask b s).main.d = s.main.d := rfl
@[simp] theorem putFlags_main_e (mask : Byte) (b : FlagBits) : (putFlags mask b s).main.e = s.main.e := by
  unfold putFlags; split <;> rfl
@[simp] theorem putFlagsFree_main_e (mask : Byte) (b : FlagBits) :
    (putFlagsFree mask b s).main.e = s.main.e := rfl
@[simp] theorem putFlags_main_h (mask : Byte) (b : FlagBits) : (putFlags mask b s).main.h = s.main.h := by
  unfold putFlags; split <;> rfl
@[simp] theorem putFlagsFree_main_h (mask : Byte) (b : FlagBits) :
    (putFlagsFree mask b s).main.h = s.main.h := rfl
@[simp] theorem putFlags_main_l (mask : Byte) (b : FlagBits) : (putFlags mask b s).main.l = s.main.l := by
  unfold putFlags; split <;> rfl
@[simp] theorem putFlagsFree_main_l (mask : Byte) (b : FlagBits) :
    (putFlagsFree mask b s).main.l = s.main.l := rfl

@[simp] theorem Regs.get_set_self (g : Regs) (q : Reg8) (v : Byte) : (g.set q v).get q = v := by cases q <;> rfl

theorem Regs.get_set_of_ne (g : Regs) (q p : Reg8) (v : Byte) (h : p ≠ q) : (g.set q v).get p = g.get p := by
  cases q <;> cases p <;> first | rfl | exact absurd rfl h

@[simp] theorem Regs.set_f (g : Regs) (q : Reg8) (v : Byte) : (g.set q v).f = g.f := by cases q <;> rfl

@[simp] theorem Regs.setBc_a (g : Regs) (w : Word) : (g.setBc w).a = g.a := rfl
@[simp] theorem Regs.setBc_f (g : Regs) (w : Word) : (g.setBc w).f = g.f := rfl
@[simp] theorem Regs.setBc_b (g : Regs) (w : Word) : (g.setBc w).b = hiByte w := rfl
@[simp] theorem Regs.setBc_c (g : Regs) (w : Word) : (g.setBc w).c = loByte w := rfl
@[simp] theorem Regs.setBc_d (g : Regs) (w : Word) : (g.setBc w).d = g.d := rfl
@[simp] theorem Regs.setBc_e (g : Regs) (w : Word) : (g.setBc w).e = g.e := rfl
@[simp] theorem Regs.setBc_h (g : Regs) (w : Word) : (g.setBc w).h = g.h := rfl
@[simp] theorem Regs.setBc_l (g : Regs) (w : Word) : (g.setBc w).l = g.l := rfl

@[simp] theorem Regs.setDe_a (g : Regs) (w : Word) : (g.setDe w).a = g.a := rfl
@[simp] theorem Regs.setDe_f (g : Regs) (w : Word) : (g.setDe w).f = g.f := rfl
@[simp] theorem Regs.setDe_b (g : Regs) (w : Word) : (g.setDe w).b = g.b := rfl
@[simp] theorem Regs.setDe_c (g : Regs) (w : Word) : (g.setDe w).c = g.c := rfl
@[simp] theorem Regs.setDe_d (g : Regs) (w : Word) : (g.setDe w).d = hiByte w := rfl
@[simp] theorem Regs.setDe_e (g : Regs) (w : Word) : (g.setDe w).e = loByte w := rfl
@[simp] theorem Regs.setDe_h (g : Regs) (w : Word) : (g.setDe w).h = g.h := rfl
@[simp] theorem Regs.setDe_l (g : Regs) (w : Word) : (g.setDe w).l = g.l := rfl

@[simp] theorem Regs.setHl_a (g : Regs) (w : Word) : (g.setHl w).a = g.a := rfl
@[simp] theorem Regs.setHl_f (g : Regs) (w : Word) : (g.setHl w).f = g.f := rfl
@[simp] theorem Regs.setHl_b (g : Regs) (w : Word) : (g.setHl w).b = g.b := rfl
@[simp] theorem Regs.setHl_c (g : Regs) (w : Word) : (g.setHl w).c = g.c := rfl
@[simp] theorem Regs.setHl_d (g : Regs) (w : Word) : (g.setHl w).d = g.d := rfl
@[simp] theorem Regs.setHl_e (g : Regs) (w : Word) : (g.setHl w).e = g.e := rfl
@[simp] theorem Regs.setHl_h (g : Regs) (w : Word) : (g.setHl w).h = hiByte w := rfl
@[simp] theorem Regs.setHl_l (g : Regs) (w : Word) : (g.setHl w).l = loByte w := rfl

@[simp] theorem Regs.setAf_a (g : Regs) (w : Word) : (g.setAf w).a = hiByte w := rfl
@[simp] theorem Regs.setAf_f (g : Regs) (w : Word) : (g.setAf w).f = loByte w := rfl
@[simp] theorem Regs.setAf_b (g : Regs) (w : Word) : (g.setAf w).b = g.b := rfl
@[simp] theorem Regs.setAf_c (g : Regs) (w : Word) : (g.setAf w).c = g.c := rfl
@[simp] theorem Regs.setAf_d (g : Regs) (w : Word) : (g.setAf w).d = g.d := rfl
@[simp] theorem Regs.setAf_e (g : Regs) (w : Word) : (g.setAf w).e = g.e := rfl
@[simp] theorem Regs.setAf_h (g : Regs) (w : Word) : (g.setAf w).h = g.h := rfl
@[simp] theorem Regs.setAf_l (g : Regs) (w : Word) : (g.setAf w).l = g.l := rfl

@[simp] theorem joinBytes_hi_lo (w : Word) : joinBytes (hiByte w) (loByte w) = w := by
  apply BitVec.eq_of_getLsbD_eq
  intro k hk
  simp only [joinBytes, hiByte, loByte, BitVec.getLsbD_append, BitVec.getLsbD_extractLsb']
  by_cases h : k < 8
  · simp [h]
  · have h8 : k - 8 < 8 := by omega
    have hs : 8 + (k - 8) = k := by omega
    simp [h, h8, hs]

@[simp] theorem hiByte_joinBytes (h l : Byte) : hiByte (joinBytes h l) = h := by
  apply BitVec.eq_of_getLsbD_eq
  intro k hk
  have h1 : ¬ 8 + k < 8 := by omega
  have h2 : 8 + k - 8 = k := by omega
  simp only [hiByte, joinBytes, BitVec.getLsbD_extractLsb', BitVec.getLsbD_append, h1, h2, hk, if_false,
    decide_true, Bool.true_and]

@[simp] theorem loByte_joinBytes (h l : Byte) : loByte (joinBytes h l) = l := by
  apply BitVec.eq_of_getLsbD_eq
  intro k hk
  simp only [loByte, joinBytes, BitVec.getLsbD_extractLsb', BitVec.getLsbD_append, Nat.zero_add, hk, if_true,
    decide_true, Bool.true_and]

@[simp] theorem Regs.bc_setBc (g : Regs) (w : Word) : (g.setBc w).bc = w := by simp [Regs.bc]

@[simp] theorem Regs.de_setDe (g : Regs) (w : Word) : (g.setDe w).de = w := by simp [Regs.de]

@[simp] theorem Regs.hl_setHl (g : Regs) (w : Word) : (g.setHl w).hl = w := by simp [Regs.hl]

@[simp] theorem Regs.af_setAf (g : Regs) (w : Word) : (g.setAf w).af = w := by simp [Regs.af]

@[simp] theorem getPair_setPair (rr : RegPair) (w : Word) : getPair rr (setPair rr w s) = w := by
  cases rr <;> simp [getPair, setPair]

@[simp] theorem getXy_setXy (xy : IndexReg) (w : Word) : getXy xy (setXy xy w s) = w := by cases xy <;> rfl

@[simp] theorem getStackPair_setStackPair (qq : StackPair) (w : Word) : getStackPair qq (setStackPair qq w s) = w := by
  cases qq <;> simp [getStackPair, setStackPair]

/-- The packed flag byte and the eight booleans are in bijection (R26). -/
@[simp] theorem FlagBits.toByte_ofByte (v : Byte) : (FlagBits.ofByte v).toByte = v := by
  revert v; decide

/-- The packed flag byte and the eight booleans are in bijection (R26). -/
@[simp] theorem FlagBits.ofByte_toByte (b : FlagBits) : FlagBits.ofByte b.toByte = b := by
  rcases b with ⟨_ | _, _ | _, _ | _, _ | _, _ | _, _ | _, _ | _, _ | _⟩ <;> rfl

end Sys2Proof.Machine
end

