-- ==== Sys2Proof/Laws/Memory.lean ====
section
/-! SUPPORT. The byte array: a read after a write, and the canonical form, which every memory operation keeps. -/

namespace Sys2Proof.Machine

namespace Memory

@[simp] theorem read_erase_self (m : Memory) (a : Nat) : (m.erase a).read a = Config.unlistedByte := by
  induction m with
  | nil => rfl
  | cons c rest ih =>
    obtain ⟨k, v⟩ := c
    by_cases h : k = a <;> simp [Memory.erase, Memory.read, h, ih]

theorem read_erase_of_ne (m : Memory) {a b : Nat} (hb : b ≠ a) : (m.erase a).read b = m.read b := by
  induction m with
  | nil => rfl
  | cons c rest ih =>
    obtain ⟨k, v⟩ := c
    by_cases h : k = a
    · have hk : k ≠ b := fun e => hb (e ▸ h)
      simp [Memory.erase, Memory.read, h, ih, Ne.symm hb]
    · simp [Memory.erase, Memory.read, h, ih]

/-- No entry stands at an address. -/
def Free (a : Nat) : Memory → Prop
  | [] => True
  | (k, _) :: rest => k ≠ a ∧ Free a rest

theorem free_erase (m : Memory) (a : Nat) : Free a (m.erase a) := by
  induction m with
  | nil => trivial
  | cons c rest ih =>
    obtain ⟨k, v⟩ := c
    by_cases h : k = a
    · simpa [Memory.erase, h] using ih
    · simpa [Memory.erase, h, Free] using ih

theorem read_insert_self (m : Memory) (a : Nat) (v : Byte) (h : Free a m) : (m.insert a v).read a = v := by
  induction m with
  | nil => simp [Memory.insert, Memory.read]
  | cons c rest ih =>
    obtain ⟨k, w⟩ := c
    by_cases hk : a < k
    · simp [Memory.insert, Memory.read, hk]
    · simp [Memory.insert, Memory.read, hk, h.1, ih h.2]

theorem read_insert_of_ne (m : Memory) {a b : Nat} (v : Byte) (hb : b ≠ a) : (m.insert a v).read b = m.read b := by
  induction m with
  | nil => simp [Memory.insert, Memory.read, Ne.symm hb]
  | cons c rest ih =>
    obtain ⟨k, w⟩ := c
    by_cases hk : a < k
    · simp [Memory.insert, Memory.read, hk, Ne.symm hb]
    · simp [Memory.insert, Memory.read, hk, ih]

/-- A read after a write of the same byte. -/
@[simp] theorem read_write_self (m : Memory) (a : Nat) (v : Byte) : (m.write a v).read a = v := by
  by_cases h : v = Config.unlistedByte
  · simp [Memory.write, h]
  · simp [Memory.write, h, read_insert_self _ _ _ (free_erase m a)]

/-- A write leaves every other byte alone. -/
theorem read_write_of_ne (m : Memory) {a b : Nat} (v : Byte) (hb : b ≠ a) : (m.write a v).read b = m.read b := by
  by_cases h : v = Config.unlistedByte
  · simp [Memory.write, h, read_erase_of_ne m hb]
  · simp [Memory.write, h, read_insert_of_ne _ v hb, read_erase_of_ne m hb]

theorem wfFrom_mono {lo lo' : Nat} (m : Memory) (h : lo' ≤ lo) (hm : wfFrom lo m = true) : wfFrom lo' m = true := by
  cases m with
  | nil => rfl
  | cons c rest =>
    obtain ⟨k, v⟩ := c
    simp only [wfFrom, Bool.and_eq_true, decide_eq_true_eq] at hm ⊢
    exact ⟨⟨⟨le_trans h hm.1.1.1, hm.1.1.2⟩, hm.1.2⟩, hm.2⟩

theorem wfFrom_erase (m : Memory) (a : Nat) : ∀ lo, wfFrom lo m = true → wfFrom lo (m.erase a) = true := by
  induction m with
  | nil => intro lo h; exact h
  | cons c rest ih =>
    obtain ⟨k, v⟩ := c
    intro lo hm
    simp only [wfFrom, Bool.and_eq_true, decide_eq_true_eq] at hm
    by_cases h : k = a
    · simp only [Memory.erase, h, if_true]
      exact wfFrom_mono _ (by omega) (ih (k + 1) hm.2)
    · simp only [Memory.erase, h, if_false, wfFrom, Bool.and_eq_true, decide_eq_true_eq]
      exact ⟨hm.1, ih (k + 1) hm.2⟩

theorem wfFrom_insert (m : Memory) (a : Nat) (v : Byte) (ha : a < 65536) (hv : v ≠ Config.unlistedByte) :
    ∀ lo, lo ≤ a → Free a m → wfFrom lo m = true → wfFrom lo (m.insert a v) = true := by
  induction m with
  | nil => intro lo hlo _ _; simp [Memory.insert, wfFrom, hlo, ha, hv]
  | cons c rest ih =>
    obtain ⟨k, w⟩ := c
    intro lo hlo hf hm
    simp only [wfFrom, Bool.and_eq_true, decide_eq_true_eq] at hm
    by_cases hk : a < k
    · simp only [Memory.insert, hk, if_true, wfFrom, Bool.and_eq_true, decide_eq_true_eq]
      exact ⟨⟨⟨hlo, ha⟩, by simpa using hv⟩, ⟨⟨hk, hm.1.1.2⟩, hm.1.2⟩, hm.2⟩
    · have hka : k ≠ a := hf.1
      simp only [Memory.insert, hk, if_false, wfFrom, Bool.and_eq_true, decide_eq_true_eq]
      exact ⟨hm.1, ih (k + 1) (by omega) hf.2 hm.2⟩

/-- A write keeps the canonical form. -/
theorem wf_write (m : Memory) (a : Nat) (v : Byte) (ha : a < 65536) (hm : m.wf = true) : (m.write a v).wf = true := by
  by_cases h : v = Config.unlistedByte
  · simpa [Memory.write, h, Memory.wf] using wfFrom_erase m a 0 hm
  · simpa [Memory.write, h, Memory.wf] using
      wfFrom_insert _ a v ha h 0 (Nat.zero_le _) (free_erase m a) (wfFrom_erase m a 0 hm)

end Memory

variable (s : State)

/-! ### The mapper -/

/-- With no mapper every address is its own cell (R61, D21). -/
@[simp] theorem loadCell_nil (a : Word) : loadCell [] a = some a := rfl

@[simp] theorem storeCell_nil (a : Word) : storeCell [] a = some a := rfl

/-- An address no region intercepts is its own cell. -/
theorem loadCell_of_regionAt {mapper : List Config.Region} {a : Word} (h : regionAt mapper a = none) :
    loadCell mapper a = some a := by
  simp [loadCell, h]

theorem storeCell_of_regionAt {mapper : List Config.Region} {a : Word} (h : regionAt mapper a = none) :
    storeCell mapper a = some a := by
  simp [storeCell, h]

/-- The byte a read takes from the array, where it takes one. -/
theorem arrayByte_of_loadCell {s : State} {a c : Word} (h : loadCell s.params.mapper a = some c) :
    arrayByte s a = peek s c := by
  simp [arrayByte, h]

/-- `peek` sees only the array. -/
theorem peek_congr {s t : State} (h : t.mem = s.mem) (a : Word) : peek t a = peek s a := by simp [peek, h]

/-- `arrayByte` sees only the array and the mapper. -/
theorem arrayByte_congr {s t : State} (hm : t.mem = s.mem) (hp : t.params = s.params) (a : Word) :
    arrayByte t a = arrayByte s a := by
  simp [arrayByte, peek, hm, hp]

/-! ### A store -/

theorem memWrite_mem (a : Word) (v : Byte) :
    (memWrite s a v).mem =
      match storeCell s.params.mapper a with
      | some c => s.mem.write c.toNat v
      | none => s.mem := by
  unfold memWrite
  cases storeCell s.params.mapper a <;> rfl

@[simp] theorem memWrite_calls (a : Word) (v : Byte) : (memWrite s a v).calls = s.calls ++ [.memWrite a v] := by
  unfold memWrite
  split <;> rfl

/-- All a store does to the array: the cell the mapper gives the address takes the byte, every other cell stays, and where
the host takes the write every cell stays (R61). -/
theorem peek_memWrite (a : Word) (v : Byte) (c : Word) :
    peek (memWrite s a v) c = if storeCell s.params.mapper a = some c then v else peek s c := by
  unfold peek
  rw [memWrite_mem]
  cases hc : storeCell s.params.mapper a with
  | none => simp
  | some d =>
    by_cases hd : d = c
    · simp [hd]
    · have hn : c.toNat ≠ d.toNat := fun e => hd (BitVec.eq_of_toNat_eq e.symm)
      simp [hd, Memory.read_write_of_ne _ _ hn]

/-- Every store keeps the canonical form of memory. -/
theorem wf_memWrite (a : Word) (v : Byte) (h : s.mem.wf = true) : (memWrite s a v).mem.wf = true := by
  rw [memWrite_mem]
  split
  · exact Memory.wf_write _ _ _ (BitVec.isLt _) h
  · exact h

/-- All a word store does to the array: the low byte to the cell of `a`, then the high byte to the cell of `a + 1` (R11, R63). -/
theorem peek_memWrite16 (a w c : Word) :
    peek (memWrite16 s a w) c =
      if storeCell s.params.mapper (a + 1#16) = some c then hiByte w
      else if storeCell s.params.mapper a = some c then loByte w else peek s c := by
  simp [memWrite16, peek_memWrite]

theorem wf_memWrite16 (a v : Word) (h : s.mem.wf = true) : (memWrite16 s a v).mem.wf = true :=
  wf_memWrite _ _ _ (wf_memWrite _ _ _ h)

theorem wf_push16 (v : Word) (h : s.mem.wf = true) : (push16 v s).mem.wf = true :=
  wf_memWrite _ _ _ (wf_memWrite _ _ _ h)

/-- Memory is in canonical form after reset. -/
theorem wf_reset : State.reset.mem.wf = true := rfl

/-! ### A read -/

/-- A read the array answers: the byte of its cell, and the record of one more access. -/
theorem memRead_of_cell {a c : Word} (h : loadCell s.params.mapper a = some c) :
    memRead s a = (peek s c, logCall (.memRead a (peek s c)) s) := by
  simp [memRead, h]

/-- A read the host answers: the next of its replies, and the record of one more access (R61). -/
theorem memRead_of_host {a : Word} (h : loadCell s.params.mapper a = none) :
    memRead s a = ((hostByte s).1, logCall (.memRead a (hostByte s).1) (hostByte s).2) := by
  simp [memRead, h]

/-- A read the array answers, by the byte it takes from there. -/
theorem memRead_plain {a : Word} (h : loadCell s.params.mapper a ≠ none) :
    memRead s a = (arrayByte s a, logCall (.memRead a (arrayByte s a)) s) := by
  obtain ⟨c, hc⟩ := Option.ne_none_iff_exists'.mp h
  rw [memRead_of_cell s hc, arrayByte_of_loadCell hc]

theorem memRead_fst {a : Word} (h : loadCell s.params.mapper a ≠ none) : (memRead s a).1 = arrayByte s a := by
  rw [memRead_plain s h]

theorem memRead_snd {a : Word} (h : loadCell s.params.mapper a ≠ none) :
    (memRead s a).2 = logCall (.memRead a (arrayByte s a)) s := by
  rw [memRead_plain s h]

@[simp] theorem memRead_calls (a : Word) : (memRead s a).2.calls = s.calls ++ [.memRead a (memRead s a).1] := by
  unfold memRead hostByte
  split
  · rfl
  · split <;> rfl

end Sys2Proof.Machine
end

