-- ==== Sys2Proof/Laws/Ops.lean ====
section
/-! SUPPORT. What each shared operation of Machine/Ops.lean and Machine/Operands.lean does, said once: the refresh counter,
the order in which it may be counted, the stack, the end of an instruction, and the bit and number forms of the small
helpers. -/

namespace Sys2Proof.Machine

variable (s : State)

/-! ### Every byte, every pair of bytes -/

/-- A property of one byte, checked on the 256 values. -/
theorem forall_byte {P : Byte → Prop} (h : ∀ n : Fin 256, P (BitVec.ofFin n)) (v : Byte) : P v := h v.toFin

/-! ### The refresh counter -/

/-- The low seven bits of R count modulo 128 (R30). -/
theorem refresh_mod (k : Nat) (r : Byte) : (refresh k r).toNat % 128 = (r.toNat % 128 + k) % 128 := by
  have h1 : (refresh k r).extractLsb' 0 7 = r.extractLsb' 0 7 + BitVec.ofNat 7 k := by
    unfold refresh
    rw [BitVec.extractLsb'_append_eq_of_add_le (by omega)]
    simp
  have h2 := congrArg BitVec.toNat h1
  simpa [BitVec.extractLsb'_toNat, BitVec.toNat_add] using h2

/-- Bit 7 of R stays (R30). -/
theorem refresh_bit7 (k : Nat) (r : Byte) : (refresh k r).getLsbD 7 = r.getLsbD 7 := by
  have h := BitVec.getLsbD_append (x := r.extractLsb' 7 1) (y := r.extractLsb' 0 7 + BitVec.ofNat 7 k) (i := 7)
  exact h.trans (by simp)

/-- Counting no fetch changes nothing. -/
@[simp] theorem refresh_zero (r : Byte) : refresh 0 r = r := by
  refine BitVec.eq_of_getLsbD_eq fun j hj => ?_
  obtain h | rfl : j < 7 ∨ j = 7 := by omega
  · have e := BitVec.getLsbD_append (x := r.extractLsb' 7 1) (y := r.extractLsb' 0 7 + BitVec.ofNat 7 0) (i := j)
    exact e.trans (by simp [h])
  · exact refresh_bit7 0 r

/-! ### M1 fetches may be counted before or after an access -/

@[simp] theorem m1_logCall (k : Nat) (c : HostCall) : logCall c (m1 k s) = m1 k (logCall c s) := rfl

@[simp] theorem hostByte_m1 (k : Nat) : hostByte (m1 k s) = ((hostByte s).1, m1 k (hostByte s).2) := by
  cases s with
  | mk main alt ix iy sp pc i r iff1 iff2 im il id np ei ap ha cy fa mem pa st hr ca dr => cases hr <;> rfl

@[simp] theorem peek_m1 (k : Nat) (a : Word) : peek (m1 k s) a = peek s a := rfl

@[simp] theorem memRead_m1 (k : Nat) (a : Word) : memRead (m1 k s) a = ((memRead s a).1, m1 k (memRead s a).2) := by
  unfold memRead
  simp only [m1_params, peek_m1, hostByte_m1, m1_logCall]
  split <;> rfl

@[simp] theorem memWrite_m1 (k : Nat) (a : Word) (v : Byte) : memWrite (m1 k s) a v = m1 k (memWrite s a v) := by
  unfold memWrite
  simp only [m1_params]
  split <;> rfl

@[simp] theorem memRead16_m1 (k : Nat) (a : Word) :
    memRead16 (m1 k s) a = ((memRead16 s a).1, m1 k (memRead16 s a).2) := by
  simp [memRead16]

@[simp] theorem memWrite16_m1 (k : Nat) (a w : Word) : memWrite16 (m1 k s) a w = m1 k (memWrite16 s a w) := by
  simp [memWrite16]

@[simp] theorem push16_m1 (k : Nat) (v : Word) : push16 v (m1 k s) = m1 k (push16 v s) := by
  simp only [push16, memWrite_m1, m1_sp]
  rfl

@[simp] theorem pop16_m1 (k : Nat) : pop16 (m1 k s) = ((pop16 s).1, m1 k (pop16 s).2) := by
  simp only [pop16, memRead_m1, m1_sp]
  rfl

@[simp] theorem ioRead_m1 (k : Nat) (p : Word) : ioRead (m1 k s) p = ((ioRead s p).1, m1 k (ioRead s p).2) := by
  simp [ioRead]

@[simp] theorem ioWrite_m1 (k : Nat) (p : Word) (v : Byte) : ioWrite (m1 k s) p v = m1 k (ioWrite s p v) := rfl

@[simp] theorem flags_m1 (k : Nat) : flags (m1 k s) = flags s := rfl
@[simp] theorem getReg_m1 (k : Nat) (q : Reg8) : getReg q (m1 k s) = getReg q s := rfl
@[simp] theorem getXy_m1 (k : Nat) (xy : IndexReg) : getXy xy (m1 k s) = getXy xy s := by cases xy <;> rfl
@[simp] theorem getHalf_m1 (k : Nat) (xy : IndexReg) (h : Half) : getHalf xy h (m1 k s) = getHalf xy h s := by
  simp [getHalf]
@[simp] theorem getHalfReg_m1 (k : Nat) (xy : IndexReg) (q : HalfReg) :
    getHalfReg xy q (m1 k s) = getHalfReg xy q s := by
  cases q <;> simp [getHalfReg]
@[simp] theorem getPair_m1 (k : Nat) (rr : RegPair) : getPair rr (m1 k s) = getPair rr s := by cases rr <;> rfl
@[simp] theorem getIndexPair_m1 (k : Nat) (xy : IndexReg) (pp : IndexPair) :
    getIndexPair xy pp (m1 k s) = getIndexPair xy pp s := by
  cases pp <;> simp [getIndexPair]
@[simp] theorem getStackPair_m1 (k : Nat) (qq : StackPair) : getStackPair qq (m1 k s) = getStackPair qq s := by
  cases qq <;> rfl
@[simp] theorem condHolds_m1 (k : Nat) (cc : Cond) : condHolds cc (m1 k s) = condHolds cc s := by cases cc <;> rfl
@[simp] theorem jrCondHolds_m1 (k : Nat) (cc : JrCond) : jrCondHolds cc (m1 k s) = jrCondHolds cc s := by
  cases cc <;> rfl

@[simp] theorem setReg_m1 (k : Nat) (q : Reg8) (v : Byte) : setReg q v (m1 k s) = m1 k (setReg q v s) := rfl
@[simp] theorem setPair_m1 (k : Nat) (rr : RegPair) (w : Word) : setPair rr w (m1 k s) = m1 k (setPair rr w s) := by
  cases rr <;> rfl
@[simp] theorem setStackPair_m1 (k : Nat) (qq : StackPair) (w : Word) :
    setStackPair qq w (m1 k s) = m1 k (setStackPair qq w s) := by
  cases qq <;> rfl
@[simp] theorem setXy_m1 (k : Nat) (xy : IndexReg) (w : Word) : setXy xy w (m1 k s) = m1 k (setXy xy w s) := by
  cases xy <;> rfl
@[simp] theorem setHalf_m1 (k : Nat) (xy : IndexReg) (h : Half) (v : Byte) :
    setHalf xy h v (m1 k s) = m1 k (setHalf xy h v s) := by
  simp [setHalf]
@[simp] theorem setHalfReg_m1 (k : Nat) (xy : IndexReg) (q : HalfReg) (v : Byte) :
    setHalfReg xy q v (m1 k s) = m1 k (setHalfReg xy q v s) := by
  cases q <;> simp [setHalfReg]
@[simp] theorem putFlags_m1 (k : Nat) (mask : Byte) (b : FlagBits) :
    putFlags mask b (m1 k s) = m1 k (putFlags mask b s) := by
  unfold putFlags
  simp only [m1_params]
  split <;> rfl
@[simp] theorem putFlagsFree_m1 (k : Nat) (mask : Byte) (b : FlagBits) :
    putFlagsFree mask b (m1 k s) = m1 k (putFlagsFree mask b s) := rfl
@[simp] theorem setMain_m1 (k : Nat) (g : Regs) : setMain g (m1 k s) = m1 k (setMain g s) := rfl
@[simp] theorem exchangeSp_m1 (k : Nat) (w : Word) :
    exchangeSp w (m1 k s) = ((exchangeSp w s).1, m1 k (exchangeSp w s).2) := by
  simp [exchangeSp]
@[simp] theorem blockMove_m1 (k : Nat) (delta : Word) : blockMove delta (m1 k s) = m1 k (blockMove delta s) := by
  simp [blockMove]
@[simp] theorem blockSearch_m1 (k : Nat) (delta : Word) :
    blockSearch delta (m1 k s) = ((blockSearch delta s).1, m1 k (blockSearch delta s).2) := by
  simp [blockSearch]
@[simp] theorem blockIn_m1 (k : Nat) (delta : Int) : blockIn delta (m1 k s) = m1 k (blockIn delta s) := by
  simp [blockIn, putBlockIoFlags]
@[simp] theorem blockOut_m1 (k : Nat) (delta : Int) : blockOut delta (m1 k s) = m1 k (blockOut delta s) := by
  simp [blockOut, putBlockIoFlags]
@[simp] theorem stepMem_m1 (k : Nat) (f : Byte → FlagBits → Byte × FlagBits) (a : Word) :
    stepMem f a (m1 k s) = m1 k (stepMem f a s) := by
  simp [stepMem]
@[simp] theorem rotMem_m1 (k : Nat) (f : Byte → Bool → Byte × Bool) (a : Word) :
    rotMem f a (m1 k s) = ((rotMem f a s).1, m1 k (rotMem f a s).2) := by
  simp [rotMem]
@[simp] theorem bitMem_m1 (k : Nat) (f : Byte → Byte) (a : Word) :
    bitMem f a (m1 k s) = ((bitMem f a s).1, m1 k (bitMem f a s).2) := by
  simp [bitMem]

/-- The top of the stack exchanged, in terms of the word there (R193). -/
theorem exchangeSp_eq (w : Word) :
    exchangeSp w s = ((memRead16 s s.sp).1,
      memWrite (memWrite (memRead16 s s.sp).2 (s.sp + 1#16) (hiByte w)) s.sp (loByte w)) := rfl

/-! ### What the host answers does not depend on registers -/

@[simp] theorem flags_memRead (a : Word) : flags (memRead s a).2 = flags s := by simp [flags]
@[simp] theorem flags_memWrite (a : Word) (v : Byte) : flags (memWrite s a v) = flags s := by simp [flags]

/-! ### Words in memory and the stack -/

/-- The accesses of a word read: the byte at `a`, then the byte at `a + 1` (R11, R67). -/
theorem memRead16_calls (a : Word) :
    (memRead16 s a).2.calls =
      s.calls ++ [.memRead a (loByte (memRead16 s a).1), .memRead (a + 1#16) (hiByte (memRead16 s a).1)] := by
  simp [memRead16]

/-- A pop reads the word at SP and adds 2 to SP (R13). -/
theorem pop16_eq : pop16 s = ((memRead16 s s.sp).1, { (memRead16 s s.sp).2 with sp := s.sp + 2#16 }) := rfl

/-- The accesses of a push: the high byte at SP - 1, then the low byte at SP - 2 (R13). -/
@[simp] theorem push16_calls (v : Word) :
    (push16 v s).calls = s.calls ++ [.memWrite (s.sp - 1#16) (hiByte v), .memWrite (s.sp - 2#16) (loByte v)] := by
  simp [push16]

/-- All a push does to the array: the high byte to the cell of SP - 1, then the low byte to the cell of SP - 2 (R13). -/
theorem peek_push16 (v c : Word) :
    peek (push16 v s) c =
      if storeCell s.params.mapper (s.sp - 2#16) = some c then loByte v
      else if storeCell s.params.mapper (s.sp - 1#16) = some c then hiByte v else peek s c := by
  have e : peek (push16 v s) c = peek (memWrite (memWrite s (s.sp - 1#16) (hiByte v)) (s.sp - 2#16) (loByte v)) c := rfl
  simp [e, peek_memWrite]

/-! ### The end of an instruction -/

theorem retire_eq (len t : Nat) :
    retire len t s = .next { s with pc := s.pc + BitVec.ofNat 16 len, cycles := s.cycles + t, status := .normal } := rfl

theorem jumpTo_eq (target : Word) (t : Nat) :
    jumpTo target t s = .next { s with pc := target, cycles := s.cycles + t, status := .normal } := rfl

/-- A repeating block instruction stays or goes on (R195). -/
theorem repeatOrRetire_eq (again : Bool) :
    repeatOrRetire again s =
      .next { s with
        pc := if again then s.pc else s.pc + 2#16
        cycles := s.cycles + if again then 21 else 16
        status := .normal } := by
  cases again <;> rfl

/-! ### Flags: each at its bit of the packed byte (R26), and what a write of F leaves in it -/

@[simp] theorem FlagBits.toByte_c (b : FlagBits) : b.toByte[0] = b.c := congrArg FlagBits.c (ofByte_toByte b)
@[simp] theorem FlagBits.toByte_n (b : FlagBits) : b.toByte[1] = b.n := congrArg FlagBits.n (ofByte_toByte b)
@[simp] theorem FlagBits.toByte_pv (b : FlagBits) : b.toByte[2] = b.pv := congrArg FlagBits.pv (ofByte_toByte b)
@[simp] theorem FlagBits.toByte_f3 (b : FlagBits) : b.toByte[3] = b.f3 := congrArg FlagBits.f3 (ofByte_toByte b)
@[simp] theorem FlagBits.toByte_h (b : FlagBits) : b.toByte[4] = b.h := congrArg FlagBits.h (ofByte_toByte b)
@[simp] theorem FlagBits.toByte_f5 (b : FlagBits) : b.toByte[5] = b.f5 := congrArg FlagBits.f5 (ofByte_toByte b)
@[simp] theorem FlagBits.toByte_z (b : FlagBits) : b.toByte[6] = b.z := congrArg FlagBits.z (ofByte_toByte b)
@[simp] theorem FlagBits.toByte_s (b : FlagBits) : b.toByte[7] = b.s := congrArg FlagBits.s (ofByte_toByte b)

@[simp] theorem putFlags_get (mask : Byte) (b : FlagBits) (q : Reg8) :
    (putFlags mask b s).main.get q = s.main.get q := by
  cases q <;> simp [Regs.get]

@[simp] theorem putFlagsFree_get (mask : Byte) (b : FlagBits) (q : Reg8) :
    (putFlagsFree mask b s).main.get q = s.main.get q := by
  cases q <;> simp [Regs.get]

/-- Under `UNDOC_FLAGS` = exact, F takes the bits the rule gives and no free value is drawn (R8). -/
theorem putFlags_exact (mask : Byte) (b : FlagBits) (h : s.params.undocFlags = .exact) :
    (putFlags mask b s).main.f = b.toByte ∧ (putFlags mask b s).draws = s.draws := by
  simp [putFlags, h]

/-- Under `UNDOC_FLAGS` = any, the bits outside the mask are the rule's, and one free value is drawn (D19). -/
theorem putFlags_any (mask : Byte) (b : FlagBits) (h : s.params.undocFlags = .any) :
    (∀ k, k < 8 → mask.getLsbD k = false → (putFlags mask b s).main.f.getLsbD k = b.toByte.getLsbD k) ∧
      (putFlags mask b s).draws = s.draws + 1 := by
  refine ⟨fun k hk hm => ?_, by simp [putFlags, h]⟩
  rw [BitVec.getLsbD_eq_getElem hk] at hm
  simp [putFlags, h, hm, hk]

/-- The bits outside the mask are the rule's under both values of `UNDOC_FLAGS` (R291). -/
theorem putFlagsFree_spec (mask : Byte) (b : FlagBits) :
    (∀ k, k < 8 → mask.getLsbD k = false → (putFlagsFree mask b s).main.f.getLsbD k = b.toByte.getLsbD k) ∧
      (putFlagsFree mask b s).draws = s.draws + 1 := by
  refine ⟨fun k hk hm => ?_, rfl⟩
  rw [BitVec.getLsbD_eq_getElem hk] at hm
  simp [putFlagsFree, hm, hk]

end Sys2Proof.Machine
end

