-- ==== Sys2Proof/Laws/Decode.lean ====
section
/-! SUPPORT. Decoding a list of bytes, by the length of the instruction it starts with; the fields of an opcode byte; and
which bytes the length of an instruction depends on. -/

namespace Sys2Proof

open Machine

/-! ### Fields and code tables come back -/

theorem Reg8.ofCode_code (r : Reg8) : Reg8.ofCode r.code = some r := by cases r <;> rfl
theorem HalfReg.ofCode_code (r : HalfReg) : HalfReg.ofCode r.code = some r := by cases r <;> rfl
theorem RegPair.ofCode_code (r : RegPair) : RegPair.ofCode r.code = r := by cases r <;> rfl
theorem StackPair.ofCode_code (r : StackPair) : StackPair.ofCode r.code = r := by cases r <;> rfl
theorem IndexPair.ofCode_code (r : IndexPair) : IndexPair.ofCode r.code = r := by cases r <;> rfl
theorem Cond.ofCode_code (cc : Cond) : Cond.ofCode cc.code = cc := by cases cc <;> rfl

@[simp] theorem fieldX_opXYZ (x : Code2) (y z : Code3) : fieldX (opXYZ x y z) = x := by
  cases x <;> cases y <;> cases z <;> rfl
@[simp] theorem fieldY_opXYZ (x : Code2) (y z : Code3) : fieldY (opXYZ x y z) = y := by
  cases x <;> cases y <;> cases z <;> rfl
@[simp] theorem fieldZ_opXYZ (x : Code2) (y z : Code3) : fieldZ (opXYZ x y z) = z := by
  cases x <;> cases y <;> cases z <;> rfl

/-! ### A list of bytes by the length of its first instruction -/

/-- A one-byte instruction in front of any bytes. -/
theorem decode_one {i : Instr} {b0 : Byte} (rest : List Byte) (hr : ∀ b1, bytesRead b0 b1 = 1)
    (hd : ∀ b1 b2 b3, decodeBytes b0 b1 b2 b3 = i) (hl : i.length = 1) : decode (b0 :: rest) = .instr i rest := by
  simp [decode, hr, hd, hl]

/-- A two-byte instruction in front of any bytes. -/
theorem decode_two {i : Instr} {b0 b1 : Byte} (rest : List Byte) (hr : bytesRead b0 b1 = 2)
    (hd : ∀ b2 b3, decodeBytes b0 b1 b2 b3 = i) (hl : i.length = 2) : decode (b0 :: b1 :: rest) = .instr i rest := by
  simp [decode, hr, hd, hl]

/-- A three-byte instruction in front of any bytes. -/
theorem decode_three {i : Instr} {b0 b1 b2 : Byte} (rest : List Byte) (hr : bytesRead b0 b1 = 3)
    (hd : ∀ b3, decodeBytes b0 b1 b2 b3 = i) (hl : i.length = 3) :
    decode (b0 :: b1 :: b2 :: rest) = .instr i rest := by
  simp [decode, hr, hd, hl]

/-- A four-byte instruction in front of any bytes. -/
theorem decode_four {i : Instr} {b0 b1 b2 b3 : Byte} (rest : List Byte) (hr : bytesRead b0 b1 = 4)
    (hd : decodeBytes b0 b1 b2 b3 = i) (hl : i.length = 4) :
    decode (b0 :: b1 :: b2 :: b3 :: rest) = .instr i rest := by
  simp [decode, hr, hd, hl]

/-- An ignored index prefix in front of the byte that classifies it (R104). -/
theorem decode_ignored {xy : IndexReg} {b0 b1 : Byte} (rest : List Byte) (hr : bytesRead b0 b1 = 2)
    (hd : ∀ b2 b3, decodeBytes b0 b1 b2 b3 = .ignoredIndexPrefix xy) :
    decode (b0 :: b1 :: rest) = .instr (.ignoredIndexPrefix xy) (b1 :: rest) := by
  simp [decode, hr, hd, Instr.length]

/-- The bytes of a word, low byte first, read back as the word (R64). -/
@[simp] theorem leWord_lo_hi (w : Word) : leWord (loByte w) (hiByte w) = w := joinBytes_hi_lo w

/-! ### Which bytes an instruction depends on: those past its length never matter -/

theorem decodeMain_one (op b1 b2 : Byte) :
    (decodeMain op 0#8 0#8).length ≤ 1 → decodeMain op b1 b2 = decodeMain op 0#8 0#8 := by
  revert op
  refine forall_byte fun n => ?_
  fin_cases n <;> intro h <;> first | rfl | exact absurd h (by decide)

theorem decodeMain_two (op b1 b2 : Byte) :
    (decodeMain op 0#8 0#8).length ≤ 2 → decodeMain op b1 b2 = decodeMain op b1 0#8 := by
  revert op
  refine forall_byte fun n => ?_
  fin_cases n <;> intro h <;> first | rfl | exact absurd h (by decide)

theorem decodeED_two (op b2 b3 : Byte) :
    (decodeED op 0#8 0#8).length ≤ 2 → decodeED op b2 b3 = decodeED op 0#8 0#8 := by
  revert op
  refine forall_byte fun n => ?_
  fin_cases n <;> intro h <;> first | rfl | exact absurd h (by decide)

theorem decodeIndexed_two (xy : IndexReg) (op b2 b3 : Byte) :
    (decodeIndexed xy op 0#8 0#8).length ≤ 2 → decodeIndexed xy op b2 b3 = decodeIndexed xy op 0#8 0#8 := by
  revert op
  refine forall_byte fun n => ?_
  fin_cases n <;> intro h <;> first | rfl | exact absurd h (by cases xy <;> decide)

theorem decodeIndexed_three (xy : IndexReg) (op b2 b3 : Byte) :
    (decodeIndexed xy op 0#8 0#8).length ≤ 3 → decodeIndexed xy op b2 b3 = decodeIndexed xy op b2 0#8 := by
  revert op
  refine forall_byte fun n => ?_
  fin_cases n <;> intro h <;> first | rfl | exact absurd h (by cases xy <;> decide)

set_option maxRecDepth 4000 in
theorem decodeMain_length (op : Byte) : 1 ≤ (decodeMain op 0#8 0#8).length ∧ (decodeMain op 0#8 0#8).length ≤ 3 := by
  revert op
  exact forall_byte (by decide)

set_option maxRecDepth 4000 in
theorem decodeED_length (op : Byte) : (decodeED op 0#8 0#8).length = 2 ∨ (decodeED op 0#8 0#8).length = 4 := by
  revert op
  exact forall_byte (by decide)

set_option maxRecDepth 4000 in
theorem decodeIndexed_length (xy : IndexReg) (op : Byte) : (decodeIndexed xy op 0#8 0#8).length ≤ 4 := by
  revert op
  cases xy <;> exact forall_byte (by decide)

theorem decodeXYCB_length (xy : IndexReg) (d op : Byte) : (decodeXYCB xy d op).length = 4 := by
  unfold decodeXYCB
  cases fieldX op <;> cases Reg8.ofCode (fieldZ op) <;> first | rfl | (cases fieldY op <;> rfl)

theorem decodeCB_length (op : Byte) : (decodeCB op).length = 2 := by
  unfold decodeCB
  cases fieldX op <;> cases Reg8.ofCode (fieldZ op) <;> first | rfl | (cases fieldY op <;> rfl)

/-! ### `bytesRead` -/

theorem bytesRead_prefix {b0 : Byte} (b1 : Byte) (h : isPrefixByte b0 = true) :
    bytesRead b0 b1 = max 2 (decodeBytes b0 b1 0#8 0#8).length := by simp [bytesRead, h]

theorem bytesRead_plain {b0 : Byte} (b1 : Byte) (h : isPrefixByte b0 = false) :
    bytesRead b0 b1 = (decodeMain b0 0#8 0#8).length := by
  simp only [isPrefixByte, Bool.or_eq_false_iff, beq_eq_false_iff_ne, ne_eq] at h
  simp [bytesRead, isPrefixByte, decodeBytes, h]

theorem decodeBytes_plain {b0 : Byte} (b1 b2 b3 : Byte) (h : isPrefixByte b0 = false) :
    decodeBytes b0 b1 b2 b3 = decodeMain b0 b1 b2 := by
  simp only [isPrefixByte, Bool.or_eq_false_iff, beq_eq_false_iff_ne, ne_eq] at h
  simp [decodeBytes, h]

/-- A prefixed instruction of at most two bytes depends on no byte past them. -/
theorem decodeBytes_two {b0 : Byte} (b1 b2 b3 : Byte) (h : bytesRead b0 b1 ≤ 2) (hp : isPrefixByte b0 = true) :
    decodeBytes b0 b1 b2 b3 = decodeBytes b0 b1 0#8 0#8 := by
  rw [bytesRead_prefix b1 hp] at h
  have hl : (decodeBytes b0 b1 0#8 0#8).length ≤ 2 := by omega
  unfold decodeBytes at hl ⊢
  split_ifs at hl ⊢
  · rfl
  · exact decodeED_two _ _ _ hl
  · rw [decodeXYCB_length] at hl; omega
  · exact decodeIndexed_two _ _ _ _ hl
  · rw [decodeXYCB_length] at hl; omega
  · exact decodeIndexed_two _ _ _ _ hl
  · simp_all [isPrefixByte]

/-- A prefixed instruction of at most three bytes does not depend on the fourth. -/
theorem decodeBytes_three {b0 : Byte} (b1 b2 b3 : Byte) (h : bytesRead b0 b1 ≤ 3) (hp : isPrefixByte b0 = true) :
    decodeBytes b0 b1 b2 b3 = decodeBytes b0 b1 b2 0#8 := by
  rw [bytesRead_prefix b1 hp] at h
  have hl : (decodeBytes b0 b1 0#8 0#8).length ≤ 3 := by omega
  unfold decodeBytes at hl ⊢
  split_ifs at hl ⊢
  · rfl
  · have h2 : (decodeED b1 0#8 0#8).length ≤ 2 := by
      rcases decodeED_length b1 with e | e <;> omega
    rw [decodeED_two _ b2 b3 h2, decodeED_two _ b2 0#8 h2]
  · rw [decodeXYCB_length] at hl; omega
  · exact decodeIndexed_three _ _ _ _ hl
  · rw [decodeXYCB_length] at hl; omega
  · exact decodeIndexed_three _ _ _ _ hl
  · simp_all [isPrefixByte]

/-- Decode reads one to four bytes, at least two when the first is a prefix and at most three when it is not (R90). -/
theorem bytesRead_bounds (b0 b1 : Byte) :
    (isPrefixByte b0 = true → 2 ≤ bytesRead b0 b1 ∧ bytesRead b0 b1 ≤ 4) ∧
      (isPrefixByte b0 = false → 1 ≤ bytesRead b0 b1 ∧ bytesRead b0 b1 ≤ 3) := by
  constructor
  · intro h
    rw [bytesRead_prefix b1 h]
    refine ⟨by omega, ?_⟩
    have hl : (decodeBytes b0 b1 0#8 0#8).length ≤ 4 := by
      unfold decodeBytes
      split_ifs
      · rw [decodeCB_length]; omega
      · rcases decodeED_length b1 with e | e <;> omega
      · rw [decodeXYCB_length]
      · exact decodeIndexed_length _ _
      · rw [decodeXYCB_length]
      · exact decodeIndexed_length _ _
      · simp_all [isPrefixByte]
    omega
  · intro h
    rw [bytesRead_plain b1 h]
    exact decodeMain_length b0

end Sys2Proof
end

