-- ==== Sys2Proof/Laws/Shared.lean ====
section
/-! SUPPORT. What the operations shared by several meanings leave unchanged, field by field. -/

namespace Sys2Proof.Machine

variable (s : State)

/-! #### `aluAdd` -/

@[simp] theorem aluAdd_alt (v : Byte) : (aluAdd v s).alt = s.alt := by simp [aluAdd]
@[simp] theorem aluAdd_ix (v : Byte) : (aluAdd v s).ix = s.ix := by simp [aluAdd]
@[simp] theorem aluAdd_iy (v : Byte) : (aluAdd v s).iy = s.iy := by simp [aluAdd]
@[simp] theorem aluAdd_sp (v : Byte) : (aluAdd v s).sp = s.sp := by simp [aluAdd]
@[simp] theorem aluAdd_pc (v : Byte) : (aluAdd v s).pc = s.pc := by simp [aluAdd]
@[simp] theorem aluAdd_i (v : Byte) : (aluAdd v s).i = s.i := by simp [aluAdd]
@[simp] theorem aluAdd_r (v : Byte) : (aluAdd v s).r = s.r := by simp [aluAdd]
@[simp] theorem aluAdd_iff1 (v : Byte) : (aluAdd v s).iff1 = s.iff1 := by simp [aluAdd]
@[simp] theorem aluAdd_iff2 (v : Byte) : (aluAdd v s).iff2 = s.iff2 := by simp [aluAdd]
@[simp] theorem aluAdd_im (v : Byte) : (aluAdd v s).im = s.im := by simp [aluAdd]
@[simp] theorem aluAdd_intLine (v : Byte) : (aluAdd v s).intLine = s.intLine := by simp [aluAdd]
@[simp] theorem aluAdd_intData (v : Byte) : (aluAdd v s).intData = s.intData := by simp [aluAdd]
@[simp] theorem aluAdd_nmiPending (v : Byte) : (aluAdd v s).nmiPending = s.nmiPending := by simp [aluAdd]
@[simp] theorem aluAdd_eiInhibit (v : Byte) : (aluAdd v s).eiInhibit = s.eiInhibit := by simp [aluAdd]
@[simp] theorem aluAdd_afterPrefix (v : Byte) : (aluAdd v s).afterPrefix = s.afterPrefix := by simp [aluAdd]
@[simp] theorem aluAdd_halted (v : Byte) : (aluAdd v s).halted = s.halted := by simp [aluAdd]
@[simp] theorem aluAdd_cycles (v : Byte) : (aluAdd v s).cycles = s.cycles := by simp [aluAdd]
@[simp] theorem aluAdd_fault (v : Byte) : (aluAdd v s).fault = s.fault := by simp [aluAdd]
@[simp] theorem aluAdd_mem (v : Byte) : (aluAdd v s).mem = s.mem := by simp [aluAdd]
@[simp] theorem aluAdd_params (v : Byte) : (aluAdd v s).params = s.params := by simp [aluAdd]
@[simp] theorem aluAdd_status (v : Byte) : (aluAdd v s).status = s.status := by simp [aluAdd]
@[simp] theorem aluAdd_hostReplies (v : Byte) : (aluAdd v s).hostReplies = s.hostReplies := by simp [aluAdd]
@[simp] theorem aluAdd_calls (v : Byte) : (aluAdd v s).calls = s.calls := by simp [aluAdd]

/-! #### `aluAdc` -/

@[simp] theorem aluAdc_alt (v : Byte) : (aluAdc v s).alt = s.alt := by simp [aluAdc]
@[simp] theorem aluAdc_ix (v : Byte) : (aluAdc v s).ix = s.ix := by simp [aluAdc]
@[simp] theorem aluAdc_iy (v : Byte) : (aluAdc v s).iy = s.iy := by simp [aluAdc]
@[simp] theorem aluAdc_sp (v : Byte) : (aluAdc v s).sp = s.sp := by simp [aluAdc]
@[simp] theorem aluAdc_pc (v : Byte) : (aluAdc v s).pc = s.pc := by simp [aluAdc]
@[simp] theorem aluAdc_i (v : Byte) : (aluAdc v s).i = s.i := by simp [aluAdc]
@[simp] theorem aluAdc_r (v : Byte) : (aluAdc v s).r = s.r := by simp [aluAdc]
@[simp] theorem aluAdc_iff1 (v : Byte) : (aluAdc v s).iff1 = s.iff1 := by simp [aluAdc]
@[simp] theorem aluAdc_iff2 (v : Byte) : (aluAdc v s).iff2 = s.iff2 := by simp [aluAdc]
@[simp] theorem aluAdc_im (v : Byte) : (aluAdc v s).im = s.im := by simp [aluAdc]
@[simp] theorem aluAdc_intLine (v : Byte) : (aluAdc v s).intLine = s.intLine := by simp [aluAdc]
@[simp] theorem aluAdc_intData (v : Byte) : (aluAdc v s).intData = s.intData := by simp [aluAdc]
@[simp] theorem aluAdc_nmiPending (v : Byte) : (aluAdc v s).nmiPending = s.nmiPending := by simp [aluAdc]
@[simp] theorem aluAdc_eiInhibit (v : Byte) : (aluAdc v s).eiInhibit = s.eiInhibit := by simp [aluAdc]
@[simp] theorem aluAdc_afterPrefix (v : Byte) : (aluAdc v s).afterPrefix = s.afterPrefix := by simp [aluAdc]
@[simp] theorem aluAdc_halted (v : Byte) : (aluAdc v s).halted = s.halted := by simp [aluAdc]
@[simp] theorem aluAdc_cycles (v : Byte) : (aluAdc v s).cycles = s.cycles := by simp [aluAdc]
@[simp] theorem aluAdc_fault (v : Byte) : (aluAdc v s).fault = s.fault := by simp [aluAdc]
@[simp] theorem aluAdc_mem (v : Byte) : (aluAdc v s).mem = s.mem := by simp [aluAdc]
@[simp] theorem aluAdc_params (v : Byte) : (aluAdc v s).params = s.params := by simp [aluAdc]
@[simp] theorem aluAdc_status (v : Byte) : (aluAdc v s).status = s.status := by simp [aluAdc]
@[simp] theorem aluAdc_hostReplies (v : Byte) : (aluAdc v s).hostReplies = s.hostReplies := by simp [aluAdc]
@[simp] theorem aluAdc_calls (v : Byte) : (aluAdc v s).calls = s.calls := by simp [aluAdc]

/-! #### `aluSub` -/

@[simp] theorem aluSub_alt (v : Byte) : (aluSub v s).alt = s.alt := by simp [aluSub]
@[simp] theorem aluSub_ix (v : Byte) : (aluSub v s).ix = s.ix := by simp [aluSub]
@[simp] theorem aluSub_iy (v : Byte) : (aluSub v s).iy = s.iy := by simp [aluSub]
@[simp] theorem aluSub_sp (v : Byte) : (aluSub v s).sp = s.sp := by simp [aluSub]
@[simp] theorem aluSub_pc (v : Byte) : (aluSub v s).pc = s.pc := by simp [aluSub]
@[simp] theorem aluSub_i (v : Byte) : (aluSub v s).i = s.i := by simp [aluSub]
@[simp] theorem aluSub_r (v : Byte) : (aluSub v s).r = s.r := by simp [aluSub]
@[simp] theorem aluSub_iff1 (v : Byte) : (aluSub v s).iff1 = s.iff1 := by simp [aluSub]
@[simp] theorem aluSub_iff2 (v : Byte) : (aluSub v s).iff2 = s.iff2 := by simp [aluSub]
@[simp] theorem aluSub_im (v : Byte) : (aluSub v s).im = s.im := by simp [aluSub]
@[simp] theorem aluSub_intLine (v : Byte) : (aluSub v s).intLine = s.intLine := by simp [aluSub]
@[simp] theorem aluSub_intData (v : Byte) : (aluSub v s).intData = s.intData := by simp [aluSub]
@[simp] theorem aluSub_nmiPending (v : Byte) : (aluSub v s).nmiPending = s.nmiPending := by simp [aluSub]
@[simp] theorem aluSub_eiInhibit (v : Byte) : (aluSub v s).eiInhibit = s.eiInhibit := by simp [aluSub]
@[simp] theorem aluSub_afterPrefix (v : Byte) : (aluSub v s).afterPrefix = s.afterPrefix := by simp [aluSub]
@[simp] theorem aluSub_halted (v : Byte) : (aluSub v s).halted = s.halted := by simp [aluSub]
@[simp] theorem aluSub_cycles (v : Byte) : (aluSub v s).cycles = s.cycles := by simp [aluSub]
@[simp] theorem aluSub_fault (v : Byte) : (aluSub v s).fault = s.fault := by simp [aluSub]
@[simp] theorem aluSub_mem (v : Byte) : (aluSub v s).mem = s.mem := by simp [aluSub]
@[simp] theorem aluSub_params (v : Byte) : (aluSub v s).params = s.params := by simp [aluSub]
@[simp] theorem aluSub_status (v : Byte) : (aluSub v s).status = s.status := by simp [aluSub]
@[simp] theorem aluSub_hostReplies (v : Byte) : (aluSub v s).hostReplies = s.hostReplies := by simp [aluSub]
@[simp] theorem aluSub_calls (v : Byte) : (aluSub v s).calls = s.calls := by simp [aluSub]

/-! #### `aluSbc` -/

@[simp] theorem aluSbc_alt (v : Byte) : (aluSbc v s).alt = s.alt := by simp [aluSbc]
@[simp] theorem aluSbc_ix (v : Byte) : (aluSbc v s).ix = s.ix := by simp [aluSbc]
@[simp] theorem aluSbc_iy (v : Byte) : (aluSbc v s).iy = s.iy := by simp [aluSbc]
@[simp] theorem aluSbc_sp (v : Byte) : (aluSbc v s).sp = s.sp := by simp [aluSbc]
@[simp] theorem aluSbc_pc (v : Byte) : (aluSbc v s).pc = s.pc := by simp [aluSbc]
@[simp] theorem aluSbc_i (v : Byte) : (aluSbc v s).i = s.i := by simp [aluSbc]
@[simp] theorem aluSbc_r (v : Byte) : (aluSbc v s).r = s.r := by simp [aluSbc]
@[simp] theorem aluSbc_iff1 (v : Byte) : (aluSbc v s).iff1 = s.iff1 := by simp [aluSbc]
@[simp] theorem aluSbc_iff2 (v : Byte) : (aluSbc v s).iff2 = s.iff2 := by simp [aluSbc]
@[simp] theorem aluSbc_im (v : Byte) : (aluSbc v s).im = s.im := by simp [aluSbc]
@[simp] theorem aluSbc_intLine (v : Byte) : (aluSbc v s).intLine = s.intLine := by simp [aluSbc]
@[simp] theorem aluSbc_intData (v : Byte) : (aluSbc v s).intData = s.intData := by simp [aluSbc]
@[simp] theorem aluSbc_nmiPending (v : Byte) : (aluSbc v s).nmiPending = s.nmiPending := by simp [aluSbc]
@[simp] theorem aluSbc_eiInhibit (v : Byte) : (aluSbc v s).eiInhibit = s.eiInhibit := by simp [aluSbc]
@[simp] theorem aluSbc_afterPrefix (v : Byte) : (aluSbc v s).afterPrefix = s.afterPrefix := by simp [aluSbc]
@[simp] theorem aluSbc_halted (v : Byte) : (aluSbc v s).halted = s.halted := by simp [aluSbc]
@[simp] theorem aluSbc_cycles (v : Byte) : (aluSbc v s).cycles = s.cycles := by simp [aluSbc]
@[simp] theorem aluSbc_fault (v : Byte) : (aluSbc v s).fault = s.fault := by simp [aluSbc]
@[simp] theorem aluSbc_mem (v : Byte) : (aluSbc v s).mem = s.mem := by simp [aluSbc]
@[simp] theorem aluSbc_params (v : Byte) : (aluSbc v s).params = s.params := by simp [aluSbc]
@[simp] theorem aluSbc_status (v : Byte) : (aluSbc v s).status = s.status := by simp [aluSbc]
@[simp] theorem aluSbc_hostReplies (v : Byte) : (aluSbc v s).hostReplies = s.hostReplies := by simp [aluSbc]
@[simp] theorem aluSbc_calls (v : Byte) : (aluSbc v s).calls = s.calls := by simp [aluSbc]

/-! #### `aluAnd` -/

@[simp] theorem aluAnd_alt (v : Byte) : (aluAnd v s).alt = s.alt := by simp [aluAnd]
@[simp] theorem aluAnd_ix (v : Byte) : (aluAnd v s).ix = s.ix := by simp [aluAnd]
@[simp] theorem aluAnd_iy (v : Byte) : (aluAnd v s).iy = s.iy := by simp [aluAnd]
@[simp] theorem aluAnd_sp (v : Byte) : (aluAnd v s).sp = s.sp := by simp [aluAnd]
@[simp] theorem aluAnd_pc (v : Byte) : (aluAnd v s).pc = s.pc := by simp [aluAnd]
@[simp] theorem aluAnd_i (v : Byte) : (aluAnd v s).i = s.i := by simp [aluAnd]
@[simp] theorem aluAnd_r (v : Byte) : (aluAnd v s).r = s.r := by simp [aluAnd]
@[simp] theorem aluAnd_iff1 (v : Byte) : (aluAnd v s).iff1 = s.iff1 := by simp [aluAnd]
@[simp] theorem aluAnd_iff2 (v : Byte) : (aluAnd v s).iff2 = s.iff2 := by simp [aluAnd]
@[simp] theorem aluAnd_im (v : Byte) : (aluAnd v s).im = s.im := by simp [aluAnd]
@[simp] theorem aluAnd_intLine (v : Byte) : (aluAnd v s).intLine = s.intLine := by simp [aluAnd]
@[simp] theorem aluAnd_intData (v : Byte) : (aluAnd v s).intData = s.intData := by simp [aluAnd]
@[simp] theorem aluAnd_nmiPending (v : Byte) : (aluAnd v s).nmiPending = s.nmiPending := by simp [aluAnd]
@[simp] theorem aluAnd_eiInhibit (v : Byte) : (aluAnd v s).eiInhibit = s.eiInhibit := by simp [aluAnd]
@[simp] theorem aluAnd_afterPrefix (v : Byte) : (aluAnd v s).afterPrefix = s.afterPrefix := by simp [aluAnd]
@[simp] theorem aluAnd_halted (v : Byte) : (aluAnd v s).halted = s.halted := by simp [aluAnd]
@[simp] theorem aluAnd_cycles (v : Byte) : (aluAnd v s).cycles = s.cycles := by simp [aluAnd]
@[simp] theorem aluAnd_fault (v : Byte) : (aluAnd v s).fault = s.fault := by simp [aluAnd]
@[simp] theorem aluAnd_mem (v : Byte) : (aluAnd v s).mem = s.mem := by simp [aluAnd]
@[simp] theorem aluAnd_params (v : Byte) : (aluAnd v s).params = s.params := by simp [aluAnd]
@[simp] theorem aluAnd_status (v : Byte) : (aluAnd v s).status = s.status := by simp [aluAnd]
@[simp] theorem aluAnd_hostReplies (v : Byte) : (aluAnd v s).hostReplies = s.hostReplies := by simp [aluAnd]
@[simp] theorem aluAnd_calls (v : Byte) : (aluAnd v s).calls = s.calls := by simp [aluAnd]

/-! #### `aluXor` -/

@[simp] theorem aluXor_alt (v : Byte) : (aluXor v s).alt = s.alt := by simp [aluXor]
@[simp] theorem aluXor_ix (v : Byte) : (aluXor v s).ix = s.ix := by simp [aluXor]
@[simp] theorem aluXor_iy (v : Byte) : (aluXor v s).iy = s.iy := by simp [aluXor]
@[simp] theorem aluXor_sp (v : Byte) : (aluXor v s).sp = s.sp := by simp [aluXor]
@[simp] theorem aluXor_pc (v : Byte) : (aluXor v s).pc = s.pc := by simp [aluXor]
@[simp] theorem aluXor_i (v : Byte) : (aluXor v s).i = s.i := by simp [aluXor]
@[simp] theorem aluXor_r (v : Byte) : (aluXor v s).r = s.r := by simp [aluXor]
@[simp] theorem aluXor_iff1 (v : Byte) : (aluXor v s).iff1 = s.iff1 := by simp [aluXor]
@[simp] theorem aluXor_iff2 (v : Byte) : (aluXor v s).iff2 = s.iff2 := by simp [aluXor]
@[simp] theorem aluXor_im (v : Byte) : (aluXor v s).im = s.im := by simp [aluXor]
@[simp] theorem aluXor_intLine (v : Byte) : (aluXor v s).intLine = s.intLine := by simp [aluXor]
@[simp] theorem aluXor_intData (v : Byte) : (aluXor v s).intData = s.intData := by simp [aluXor]
@[simp] theorem aluXor_nmiPending (v : Byte) : (aluXor v s).nmiPending = s.nmiPending := by simp [aluXor]
@[simp] theorem aluXor_eiInhibit (v : Byte) : (aluXor v s).eiInhibit = s.eiInhibit := by simp [aluXor]
@[simp] theorem aluXor_afterPrefix (v : Byte) : (aluXor v s).afterPrefix = s.afterPrefix := by simp [aluXor]
@[simp] theorem aluXor_halted (v : Byte) : (aluXor v s).halted = s.halted := by simp [aluXor]
@[simp] theorem aluXor_cycles (v : Byte) : (aluXor v s).cycles = s.cycles := by simp [aluXor]
@[simp] theorem aluXor_fault (v : Byte) : (aluXor v s).fault = s.fault := by simp [aluXor]
@[simp] theorem aluXor_mem (v : Byte) : (aluXor v s).mem = s.mem := by simp [aluXor]
@[simp] theorem aluXor_params (v : Byte) : (aluXor v s).params = s.params := by simp [aluXor]
@[simp] theorem aluXor_status (v : Byte) : (aluXor v s).status = s.status := by simp [aluXor]
@[simp] theorem aluXor_hostReplies (v : Byte) : (aluXor v s).hostReplies = s.hostReplies := by simp [aluXor]
@[simp] theorem aluXor_calls (v : Byte) : (aluXor v s).calls = s.calls := by simp [aluXor]

/-! #### `aluOr` -/

@[simp] theorem aluOr_alt (v : Byte) : (aluOr v s).alt = s.alt := by simp [aluOr]
@[simp] theorem aluOr_ix (v : Byte) : (aluOr v s).ix = s.ix := by simp [aluOr]
@[simp] theorem aluOr_iy (v : Byte) : (aluOr v s).iy = s.iy := by simp [aluOr]
@[simp] theorem aluOr_sp (v : Byte) : (aluOr v s).sp = s.sp := by simp [aluOr]
@[simp] theorem aluOr_pc (v : Byte) : (aluOr v s).pc = s.pc := by simp [aluOr]
@[simp] theorem aluOr_i (v : Byte) : (aluOr v s).i = s.i := by simp [aluOr]
@[simp] theorem aluOr_r (v : Byte) : (aluOr v s).r = s.r := by simp [aluOr]
@[simp] theorem aluOr_iff1 (v : Byte) : (aluOr v s).iff1 = s.iff1 := by simp [aluOr]
@[simp] theorem aluOr_iff2 (v : Byte) : (aluOr v s).iff2 = s.iff2 := by simp [aluOr]
@[simp] theorem aluOr_im (v : Byte) : (aluOr v s).im = s.im := by simp [aluOr]
@[simp] theorem aluOr_intLine (v : Byte) : (aluOr v s).intLine = s.intLine := by simp [aluOr]
@[simp] theorem aluOr_intData (v : Byte) : (aluOr v s).intData = s.intData := by simp [aluOr]
@[simp] theorem aluOr_nmiPending (v : Byte) : (aluOr v s).nmiPending = s.nmiPending := by simp [aluOr]
@[simp] theorem aluOr_eiInhibit (v : Byte) : (aluOr v s).eiInhibit = s.eiInhibit := by simp [aluOr]
@[simp] theorem aluOr_afterPrefix (v : Byte) : (aluOr v s).afterPrefix = s.afterPrefix := by simp [aluOr]
@[simp] theorem aluOr_halted (v : Byte) : (aluOr v s).halted = s.halted := by simp [aluOr]
@[simp] theorem aluOr_cycles (v : Byte) : (aluOr v s).cycles = s.cycles := by simp [aluOr]
@[simp] theorem aluOr_fault (v : Byte) : (aluOr v s).fault = s.fault := by simp [aluOr]
@[simp] theorem aluOr_mem (v : Byte) : (aluOr v s).mem = s.mem := by simp [aluOr]
@[simp] theorem aluOr_params (v : Byte) : (aluOr v s).params = s.params := by simp [aluOr]
@[simp] theorem aluOr_status (v : Byte) : (aluOr v s).status = s.status := by simp [aluOr]
@[simp] theorem aluOr_hostReplies (v : Byte) : (aluOr v s).hostReplies = s.hostReplies := by simp [aluOr]
@[simp] theorem aluOr_calls (v : Byte) : (aluOr v s).calls = s.calls := by simp [aluOr]

/-! #### `aluCp` -/

@[simp] theorem aluCp_alt (v : Byte) : (aluCp v s).alt = s.alt := by simp [aluCp]
@[simp] theorem aluCp_ix (v : Byte) : (aluCp v s).ix = s.ix := by simp [aluCp]
@[simp] theorem aluCp_iy (v : Byte) : (aluCp v s).iy = s.iy := by simp [aluCp]
@[simp] theorem aluCp_sp (v : Byte) : (aluCp v s).sp = s.sp := by simp [aluCp]
@[simp] theorem aluCp_pc (v : Byte) : (aluCp v s).pc = s.pc := by simp [aluCp]
@[simp] theorem aluCp_i (v : Byte) : (aluCp v s).i = s.i := by simp [aluCp]
@[simp] theorem aluCp_r (v : Byte) : (aluCp v s).r = s.r := by simp [aluCp]
@[simp] theorem aluCp_iff1 (v : Byte) : (aluCp v s).iff1 = s.iff1 := by simp [aluCp]
@[simp] theorem aluCp_iff2 (v : Byte) : (aluCp v s).iff2 = s.iff2 := by simp [aluCp]
@[simp] theorem aluCp_im (v : Byte) : (aluCp v s).im = s.im := by simp [aluCp]
@[simp] theorem aluCp_intLine (v : Byte) : (aluCp v s).intLine = s.intLine := by simp [aluCp]
@[simp] theorem aluCp_intData (v : Byte) : (aluCp v s).intData = s.intData := by simp [aluCp]
@[simp] theorem aluCp_nmiPending (v : Byte) : (aluCp v s).nmiPending = s.nmiPending := by simp [aluCp]
@[simp] theorem aluCp_eiInhibit (v : Byte) : (aluCp v s).eiInhibit = s.eiInhibit := by simp [aluCp]
@[simp] theorem aluCp_afterPrefix (v : Byte) : (aluCp v s).afterPrefix = s.afterPrefix := by simp [aluCp]
@[simp] theorem aluCp_halted (v : Byte) : (aluCp v s).halted = s.halted := by simp [aluCp]
@[simp] theorem aluCp_cycles (v : Byte) : (aluCp v s).cycles = s.cycles := by simp [aluCp]
@[simp] theorem aluCp_fault (v : Byte) : (aluCp v s).fault = s.fault := by simp [aluCp]
@[simp] theorem aluCp_mem (v : Byte) : (aluCp v s).mem = s.mem := by simp [aluCp]
@[simp] theorem aluCp_params (v : Byte) : (aluCp v s).params = s.params := by simp [aluCp]
@[simp] theorem aluCp_status (v : Byte) : (aluCp v s).status = s.status := by simp [aluCp]
@[simp] theorem aluCp_hostReplies (v : Byte) : (aluCp v s).hostReplies = s.hostReplies := by simp [aluCp]
@[simp] theorem aluCp_calls (v : Byte) : (aluCp v s).calls = s.calls := by simp [aluCp]

/-! #### `stepMem` -/

@[simp] theorem stepMem_alt (f : Byte → FlagBits → Byte × FlagBits) (a : Word) :
    (stepMem f a s).alt = s.alt := by simp [stepMem]
@[simp] theorem stepMem_ix (f : Byte → FlagBits → Byte × FlagBits) (a : Word) :
    (stepMem f a s).ix = s.ix := by simp [stepMem]
@[simp] theorem stepMem_iy (f : Byte → FlagBits → Byte × FlagBits) (a : Word) :
    (stepMem f a s).iy = s.iy := by simp [stepMem]
@[simp] theorem stepMem_sp (f : Byte → FlagBits → Byte × FlagBits) (a : Word) :
    (stepMem f a s).sp = s.sp := by simp [stepMem]
@[simp] theorem stepMem_pc (f : Byte → FlagBits → Byte × FlagBits) (a : Word) :
    (stepMem f a s).pc = s.pc := by simp [stepMem]
@[simp] theorem stepMem_i (f : Byte → FlagBits → Byte × FlagBits) (a : Word) :
    (stepMem f a s).i = s.i := by simp [stepMem]
@[simp] theorem stepMem_r (f : Byte → FlagBits → Byte × FlagBits) (a : Word) :
    (stepMem f a s).r = s.r := by simp [stepMem]
@[simp] theorem stepMem_iff1 (f : Byte → FlagBits → Byte × FlagBits) (a : Word) :
    (stepMem f a s).iff1 = s.iff1 := by simp [stepMem]
@[simp] theorem stepMem_iff2 (f : Byte → FlagBits → Byte × FlagBits) (a : Word) :
    (stepMem f a s).iff2 = s.iff2 := by simp [stepMem]
@[simp] theorem stepMem_im (f : Byte → FlagBits → Byte × FlagBits) (a : Word) :
    (stepMem f a s).im = s.im := by simp [stepMem]
@[simp] theorem stepMem_intLine (f : Byte → FlagBits → Byte × FlagBits) (a : Word) :
    (stepMem f a s).intLine = s.intLine := by simp [stepMem]
@[simp] theorem stepMem_intData (f : Byte → FlagBits → Byte × FlagBits) (a : Word) :
    (stepMem f a s).intData = s.intData := by simp [stepMem]
@[simp] theorem stepMem_nmiPending (f : Byte → FlagBits → Byte × FlagBits) (a : Word) :
    (stepMem f a s).nmiPending = s.nmiPending := by simp [stepMem]
@[simp] theorem stepMem_eiInhibit (f : Byte → FlagBits → Byte × FlagBits) (a : Word) :
    (stepMem f a s).eiInhibit = s.eiInhibit := by simp [stepMem]
@[simp] theorem stepMem_afterPrefix (f : Byte → FlagBits → Byte × FlagBits) (a : Word) :
    (stepMem f a s).afterPrefix = s.afterPrefix := by simp [stepMem]
@[simp] theorem stepMem_halted (f : Byte → FlagBits → Byte × FlagBits) (a : Word) :
    (stepMem f a s).halted = s.halted := by simp [stepMem]
@[simp] theorem stepMem_cycles (f : Byte → FlagBits → Byte × FlagBits) (a : Word) :
    (stepMem f a s).cycles = s.cycles := by simp [stepMem]
@[simp] theorem stepMem_fault (f : Byte → FlagBits → Byte × FlagBits) (a : Word) :
    (stepMem f a s).fault = s.fault := by simp [stepMem]
@[simp] theorem stepMem_params (f : Byte → FlagBits → Byte × FlagBits) (a : Word) :
    (stepMem f a s).params = s.params := by simp [stepMem]
@[simp] theorem stepMem_status (f : Byte → FlagBits → Byte × FlagBits) (a : Word) :
    (stepMem f a s).status = s.status := by simp [stepMem]

/-! #### `rotMem` -/

@[simp] theorem rotMem_alt (f : Byte → Bool → Byte × Bool) (a : Word) :
    ((rotMem f a s).2).alt = s.alt := by simp [rotMem]
@[simp] theorem rotMem_ix (f : Byte → Bool → Byte × Bool) (a : Word) : ((rotMem f a s).2).ix = s.ix := by simp [rotMem]
@[simp] theorem rotMem_iy (f : Byte → Bool → Byte × Bool) (a : Word) : ((rotMem f a s).2).iy = s.iy := by simp [rotMem]
@[simp] theorem rotMem_sp (f : Byte → Bool → Byte × Bool) (a : Word) : ((rotMem f a s).2).sp = s.sp := by simp [rotMem]
@[simp] theorem rotMem_pc (f : Byte → Bool → Byte × Bool) (a : Word) : ((rotMem f a s).2).pc = s.pc := by simp [rotMem]
@[simp] theorem rotMem_i (f : Byte → Bool → Byte × Bool) (a : Word) : ((rotMem f a s).2).i = s.i := by simp [rotMem]
@[simp] theorem rotMem_r (f : Byte → Bool → Byte × Bool) (a : Word) : ((rotMem f a s).2).r = s.r := by simp [rotMem]
@[simp] theorem rotMem_iff1 (f : Byte → Bool → Byte × Bool) (a : Word) :
    ((rotMem f a s).2).iff1 = s.iff1 := by simp [rotMem]
@[simp] theorem rotMem_iff2 (f : Byte → Bool → Byte × Bool) (a : Word) :
    ((rotMem f a s).2).iff2 = s.iff2 := by simp [rotMem]
@[simp] theorem rotMem_im (f : Byte → Bool → Byte × Bool) (a : Word) : ((rotMem f a s).2).im = s.im := by simp [rotMem]
@[simp] theorem rotMem_intLine (f : Byte → Bool → Byte × Bool) (a : Word) :
    ((rotMem f a s).2).intLine = s.intLine := by simp [rotMem]
@[simp] theorem rotMem_intData (f : Byte → Bool → Byte × Bool) (a : Word) :
    ((rotMem f a s).2).intData = s.intData := by simp [rotMem]
@[simp] theorem rotMem_nmiPending (f : Byte → Bool → Byte × Bool) (a : Word) :
    ((rotMem f a s).2).nmiPending = s.nmiPending := by simp [rotMem]
@[simp] theorem rotMem_eiInhibit (f : Byte → Bool → Byte × Bool) (a : Word) :
    ((rotMem f a s).2).eiInhibit = s.eiInhibit := by simp [rotMem]
@[simp] theorem rotMem_afterPrefix (f : Byte → Bool → Byte × Bool) (a : Word) :
    ((rotMem f a s).2).afterPrefix = s.afterPrefix := by simp [rotMem]
@[simp] theorem rotMem_halted (f : Byte → Bool → Byte × Bool) (a : Word) :
    ((rotMem f a s).2).halted = s.halted := by simp [rotMem]
@[simp] theorem rotMem_cycles (f : Byte → Bool → Byte × Bool) (a : Word) :
    ((rotMem f a s).2).cycles = s.cycles := by simp [rotMem]
@[simp] theorem rotMem_fault (f : Byte → Bool → Byte × Bool) (a : Word) :
    ((rotMem f a s).2).fault = s.fault := by simp [rotMem]
@[simp] theorem rotMem_params (f : Byte → Bool → Byte × Bool) (a : Word) :
    ((rotMem f a s).2).params = s.params := by simp [rotMem]
@[simp] theorem rotMem_status (f : Byte → Bool → Byte × Bool) (a : Word) :
    ((rotMem f a s).2).status = s.status := by simp [rotMem]

/-! #### `bitMem` -/

@[simp] theorem bitMem_main (f : Byte → Byte) (a : Word) : ((bitMem f a s).2).main = s.main := by simp [bitMem]
@[simp] theorem bitMem_alt (f : Byte → Byte) (a : Word) : ((bitMem f a s).2).alt = s.alt := by simp [bitMem]
@[simp] theorem bitMem_ix (f : Byte → Byte) (a : Word) : ((bitMem f a s).2).ix = s.ix := by simp [bitMem]
@[simp] theorem bitMem_iy (f : Byte → Byte) (a : Word) : ((bitMem f a s).2).iy = s.iy := by simp [bitMem]
@[simp] theorem bitMem_sp (f : Byte → Byte) (a : Word) : ((bitMem f a s).2).sp = s.sp := by simp [bitMem]
@[simp] theorem bitMem_pc (f : Byte → Byte) (a : Word) : ((bitMem f a s).2).pc = s.pc := by simp [bitMem]
@[simp] theorem bitMem_i (f : Byte → Byte) (a : Word) : ((bitMem f a s).2).i = s.i := by simp [bitMem]
@[simp] theorem bitMem_r (f : Byte → Byte) (a : Word) : ((bitMem f a s).2).r = s.r := by simp [bitMem]
@[simp] theorem bitMem_iff1 (f : Byte → Byte) (a : Word) : ((bitMem f a s).2).iff1 = s.iff1 := by simp [bitMem]
@[simp] theorem bitMem_iff2 (f : Byte → Byte) (a : Word) : ((bitMem f a s).2).iff2 = s.iff2 := by simp [bitMem]
@[simp] theorem bitMem_im (f : Byte → Byte) (a : Word) : ((bitMem f a s).2).im = s.im := by simp [bitMem]
@[simp] theorem bitMem_intLine (f : Byte → Byte) (a : Word) :
    ((bitMem f a s).2).intLine = s.intLine := by simp [bitMem]
@[simp] theorem bitMem_intData (f : Byte → Byte) (a : Word) :
    ((bitMem f a s).2).intData = s.intData := by simp [bitMem]
@[simp] theorem bitMem_nmiPending (f : Byte → Byte) (a : Word) :
    ((bitMem f a s).2).nmiPending = s.nmiPending := by simp [bitMem]
@[simp] theorem bitMem_eiInhibit (f : Byte → Byte) (a : Word) :
    ((bitMem f a s).2).eiInhibit = s.eiInhibit := by simp [bitMem]
@[simp] theorem bitMem_afterPrefix (f : Byte → Byte) (a : Word) :
    ((bitMem f a s).2).afterPrefix = s.afterPrefix := by simp [bitMem]
@[simp] theorem bitMem_halted (f : Byte → Byte) (a : Word) : ((bitMem f a s).2).halted = s.halted := by simp [bitMem]
@[simp] theorem bitMem_cycles (f : Byte → Byte) (a : Word) : ((bitMem f a s).2).cycles = s.cycles := by simp [bitMem]
@[simp] theorem bitMem_fault (f : Byte → Byte) (a : Word) : ((bitMem f a s).2).fault = s.fault := by simp [bitMem]
@[simp] theorem bitMem_params (f : Byte → Byte) (a : Word) : ((bitMem f a s).2).params = s.params := by simp [bitMem]
@[simp] theorem bitMem_status (f : Byte → Byte) (a : Word) : ((bitMem f a s).2).status = s.status := by simp [bitMem]

/-! #### `exchangeSp` -/

@[simp] theorem exchangeSp_main (w : Word) : ((exchangeSp w s).2).main = s.main := by simp [exchangeSp]
@[simp] theorem exchangeSp_alt (w : Word) : ((exchangeSp w s).2).alt = s.alt := by simp [exchangeSp]
@[simp] theorem exchangeSp_ix (w : Word) : ((exchangeSp w s).2).ix = s.ix := by simp [exchangeSp]
@[simp] theorem exchangeSp_iy (w : Word) : ((exchangeSp w s).2).iy = s.iy := by simp [exchangeSp]
@[simp] theorem exchangeSp_sp (w : Word) : ((exchangeSp w s).2).sp = s.sp := by simp [exchangeSp]
@[simp] theorem exchangeSp_pc (w : Word) : ((exchangeSp w s).2).pc = s.pc := by simp [exchangeSp]
@[simp] theorem exchangeSp_i (w : Word) : ((exchangeSp w s).2).i = s.i := by simp [exchangeSp]
@[simp] theorem exchangeSp_r (w : Word) : ((exchangeSp w s).2).r = s.r := by simp [exchangeSp]
@[simp] theorem exchangeSp_iff1 (w : Word) : ((exchangeSp w s).2).iff1 = s.iff1 := by simp [exchangeSp]
@[simp] theorem exchangeSp_iff2 (w : Word) : ((exchangeSp w s).2).iff2 = s.iff2 := by simp [exchangeSp]
@[simp] theorem exchangeSp_im (w : Word) : ((exchangeSp w s).2).im = s.im := by simp [exchangeSp]
@[simp] theorem exchangeSp_intLine (w : Word) : ((exchangeSp w s).2).intLine = s.intLine := by simp [exchangeSp]
@[simp] theorem exchangeSp_intData (w : Word) : ((exchangeSp w s).2).intData = s.intData := by simp [exchangeSp]
@[simp] theorem exchangeSp_nmiPending (w : Word) :
    ((exchangeSp w s).2).nmiPending = s.nmiPending := by simp [exchangeSp]
@[simp] theorem exchangeSp_eiInhibit (w : Word) : ((exchangeSp w s).2).eiInhibit = s.eiInhibit := by simp [exchangeSp]
@[simp] theorem exchangeSp_afterPrefix (w : Word) :
    ((exchangeSp w s).2).afterPrefix = s.afterPrefix := by simp [exchangeSp]
@[simp] theorem exchangeSp_halted (w : Word) : ((exchangeSp w s).2).halted = s.halted := by simp [exchangeSp]
@[simp] theorem exchangeSp_cycles (w : Word) : ((exchangeSp w s).2).cycles = s.cycles := by simp [exchangeSp]
@[simp] theorem exchangeSp_fault (w : Word) : ((exchangeSp w s).2).fault = s.fault := by simp [exchangeSp]
@[simp] theorem exchangeSp_params (w : Word) : ((exchangeSp w s).2).params = s.params := by simp [exchangeSp]
@[simp] theorem exchangeSp_status (w : Word) : ((exchangeSp w s).2).status = s.status := by simp [exchangeSp]

/-! #### `blockMove` -/

@[simp] theorem blockMove_alt (delta : Word) : (blockMove delta s).alt = s.alt := by simp [blockMove]
@[simp] theorem blockMove_ix (delta : Word) : (blockMove delta s).ix = s.ix := by simp [blockMove]
@[simp] theorem blockMove_iy (delta : Word) : (blockMove delta s).iy = s.iy := by simp [blockMove]
@[simp] theorem blockMove_sp (delta : Word) : (blockMove delta s).sp = s.sp := by simp [blockMove]
@[simp] theorem blockMove_pc (delta : Word) : (blockMove delta s).pc = s.pc := by simp [blockMove]
@[simp] theorem blockMove_i (delta : Word) : (blockMove delta s).i = s.i := by simp [blockMove]
@[simp] theorem blockMove_r (delta : Word) : (blockMove delta s).r = s.r := by simp [blockMove]
@[simp] theorem blockMove_iff1 (delta : Word) : (blockMove delta s).iff1 = s.iff1 := by simp [blockMove]
@[simp] theorem blockMove_iff2 (delta : Word) : (blockMove delta s).iff2 = s.iff2 := by simp [blockMove]
@[simp] theorem blockMove_im (delta : Word) : (blockMove delta s).im = s.im := by simp [blockMove]
@[simp] theorem blockMove_intLine (delta : Word) : (blockMove delta s).intLine = s.intLine := by simp [blockMove]
@[simp] theorem blockMove_intData (delta : Word) : (blockMove delta s).intData = s.intData := by simp [blockMove]
@[simp] theorem blockMove_nmiPending (delta : Word) :
    (blockMove delta s).nmiPending = s.nmiPending := by simp [blockMove]
@[simp] theorem blockMove_eiInhibit (delta : Word) : (blockMove delta s).eiInhibit = s.eiInhibit := by simp [blockMove]
@[simp] theorem blockMove_afterPrefix (delta : Word) :
    (blockMove delta s).afterPrefix = s.afterPrefix := by simp [blockMove]
@[simp] theorem blockMove_halted (delta : Word) : (blockMove delta s).halted = s.halted := by simp [blockMove]
@[simp] theorem blockMove_cycles (delta : Word) : (blockMove delta s).cycles = s.cycles := by simp [blockMove]
@[simp] theorem blockMove_fault (delta : Word) : (blockMove delta s).fault = s.fault := by simp [blockMove]
@[simp] theorem blockMove_params (delta : Word) : (blockMove delta s).params = s.params := by simp [blockMove]
@[simp] theorem blockMove_status (delta : Word) : (blockMove delta s).status = s.status := by simp [blockMove]

/-! #### `blockSearch` -/

@[simp] theorem blockSearch_alt (delta : Word) : ((blockSearch delta s).2).alt = s.alt := by simp [blockSearch]
@[simp] theorem blockSearch_ix (delta : Word) : ((blockSearch delta s).2).ix = s.ix := by simp [blockSearch]
@[simp] theorem blockSearch_iy (delta : Word) : ((blockSearch delta s).2).iy = s.iy := by simp [blockSearch]
@[simp] theorem blockSearch_sp (delta : Word) : ((blockSearch delta s).2).sp = s.sp := by simp [blockSearch]
@[simp] theorem blockSearch_pc (delta : Word) : ((blockSearch delta s).2).pc = s.pc := by simp [blockSearch]
@[simp] theorem blockSearch_i (delta : Word) : ((blockSearch delta s).2).i = s.i := by simp [blockSearch]
@[simp] theorem blockSearch_r (delta : Word) : ((blockSearch delta s).2).r = s.r := by simp [blockSearch]
@[simp] theorem blockSearch_iff1 (delta : Word) : ((blockSearch delta s).2).iff1 = s.iff1 := by simp [blockSearch]
@[simp] theorem blockSearch_iff2 (delta : Word) : ((blockSearch delta s).2).iff2 = s.iff2 := by simp [blockSearch]
@[simp] theorem blockSearch_im (delta : Word) : ((blockSearch delta s).2).im = s.im := by simp [blockSearch]
@[simp] theorem blockSearch_intLine (delta : Word) :
    ((blockSearch delta s).2).intLine = s.intLine := by simp [blockSearch]
@[simp] theorem blockSearch_intData (delta : Word) :
    ((blockSearch delta s).2).intData = s.intData := by simp [blockSearch]
@[simp] theorem blockSearch_nmiPending (delta : Word) :
    ((blockSearch delta s).2).nmiPending = s.nmiPending := by simp [blockSearch]
@[simp] theorem blockSearch_eiInhibit (delta : Word) :
    ((blockSearch delta s).2).eiInhibit = s.eiInhibit := by simp [blockSearch]
@[simp] theorem blockSearch_afterPrefix (delta : Word) :
    ((blockSearch delta s).2).afterPrefix = s.afterPrefix := by simp [blockSearch]
@[simp] theorem blockSearch_halted (delta : Word) :
    ((blockSearch delta s).2).halted = s.halted := by simp [blockSearch]
@[simp] theorem blockSearch_cycles (delta : Word) :
    ((blockSearch delta s).2).cycles = s.cycles := by simp [blockSearch]
@[simp] theorem blockSearch_fault (delta : Word) : ((blockSearch delta s).2).fault = s.fault := by simp [blockSearch]
@[simp] theorem blockSearch_mem (delta : Word) : ((blockSearch delta s).2).mem = s.mem := by simp [blockSearch]
@[simp] theorem blockSearch_params (delta : Word) :
    ((blockSearch delta s).2).params = s.params := by simp [blockSearch]
@[simp] theorem blockSearch_status (delta : Word) :
    ((blockSearch delta s).2).status = s.status := by simp [blockSearch]

/-! #### `blockIn` -/

@[simp] theorem blockIn_alt (delta : Int) : (blockIn delta s).alt = s.alt := by simp [blockIn, putBlockIoFlags]
@[simp] theorem blockIn_ix (delta : Int) : (blockIn delta s).ix = s.ix := by simp [blockIn, putBlockIoFlags]
@[simp] theorem blockIn_iy (delta : Int) : (blockIn delta s).iy = s.iy := by simp [blockIn, putBlockIoFlags]
@[simp] theorem blockIn_sp (delta : Int) : (blockIn delta s).sp = s.sp := by simp [blockIn, putBlockIoFlags]
@[simp] theorem blockIn_pc (delta : Int) : (blockIn delta s).pc = s.pc := by simp [blockIn, putBlockIoFlags]
@[simp] theorem blockIn_i (delta : Int) : (blockIn delta s).i = s.i := by simp [blockIn, putBlockIoFlags]
@[simp] theorem blockIn_r (delta : Int) : (blockIn delta s).r = s.r := by simp [blockIn, putBlockIoFlags]
@[simp] theorem blockIn_iff1 (delta : Int) : (blockIn delta s).iff1 = s.iff1 := by simp [blockIn, putBlockIoFlags]
@[simp] theorem blockIn_iff2 (delta : Int) : (blockIn delta s).iff2 = s.iff2 := by simp [blockIn, putBlockIoFlags]
@[simp] theorem blockIn_im (delta : Int) : (blockIn delta s).im = s.im := by simp [blockIn, putBlockIoFlags]
@[simp] theorem blockIn_intLine (delta : Int) :
    (blockIn delta s).intLine = s.intLine := by simp [blockIn, putBlockIoFlags]
@[simp] theorem blockIn_intData (delta : Int) :
    (blockIn delta s).intData = s.intData := by simp [blockIn, putBlockIoFlags]
@[simp] theorem blockIn_nmiPending (delta : Int) :
    (blockIn delta s).nmiPending = s.nmiPending := by simp [blockIn, putBlockIoFlags]
@[simp] theorem blockIn_eiInhibit (delta : Int) :
    (blockIn delta s).eiInhibit = s.eiInhibit := by simp [blockIn, putBlockIoFlags]
@[simp] theorem blockIn_afterPrefix (delta : Int) :
    (blockIn delta s).afterPrefix = s.afterPrefix := by simp [blockIn, putBlockIoFlags]
@[simp] theorem blockIn_halted (delta : Int) :
    (blockIn delta s).halted = s.halted := by simp [blockIn, putBlockIoFlags]
@[simp] theorem blockIn_cycles (delta : Int) :
    (blockIn delta s).cycles = s.cycles := by simp [blockIn, putBlockIoFlags]
@[simp] theorem blockIn_fault (delta : Int) : (blockIn delta s).fault = s.fault := by simp [blockIn, putBlockIoFlags]
@[simp] theorem blockIn_params (delta : Int) :
    (blockIn delta s).params = s.params := by simp [blockIn, putBlockIoFlags]
@[simp] theorem blockIn_status (delta : Int) :
    (blockIn delta s).status = s.status := by simp [blockIn, putBlockIoFlags]

/-! #### `blockOut` -/

@[simp] theorem blockOut_alt (delta : Int) : (blockOut delta s).alt = s.alt := by simp [blockOut, putBlockIoFlags]
@[simp] theorem blockOut_ix (delta : Int) : (blockOut delta s).ix = s.ix := by simp [blockOut, putBlockIoFlags]
@[simp] theorem blockOut_iy (delta : Int) : (blockOut delta s).iy = s.iy := by simp [blockOut, putBlockIoFlags]
@[simp] theorem blockOut_sp (delta : Int) : (blockOut delta s).sp = s.sp := by simp [blockOut, putBlockIoFlags]
@[simp] theorem blockOut_pc (delta : Int) : (blockOut delta s).pc = s.pc := by simp [blockOut, putBlockIoFlags]
@[simp] theorem blockOut_i (delta : Int) : (blockOut delta s).i = s.i := by simp [blockOut, putBlockIoFlags]
@[simp] theorem blockOut_r (delta : Int) : (blockOut delta s).r = s.r := by simp [blockOut, putBlockIoFlags]
@[simp] theorem blockOut_iff1 (delta : Int) : (blockOut delta s).iff1 = s.iff1 := by simp [blockOut, putBlockIoFlags]
@[simp] theorem blockOut_iff2 (delta : Int) : (blockOut delta s).iff2 = s.iff2 := by simp [blockOut, putBlockIoFlags]
@[simp] theorem blockOut_im (delta : Int) : (blockOut delta s).im = s.im := by simp [blockOut, putBlockIoFlags]
@[simp] theorem blockOut_intLine (delta : Int) :
    (blockOut delta s).intLine = s.intLine := by simp [blockOut, putBlockIoFlags]
@[simp] theorem blockOut_intData (delta : Int) :
    (blockOut delta s).intData = s.intData := by simp [blockOut, putBlockIoFlags]
@[simp] theorem blockOut_nmiPending (delta : Int) :
    (blockOut delta s).nmiPending = s.nmiPending := by simp [blockOut, putBlockIoFlags]
@[simp] theorem blockOut_eiInhibit (delta : Int) :
    (blockOut delta s).eiInhibit = s.eiInhibit := by simp [blockOut, putBlockIoFlags]
@[simp] theorem blockOut_afterPrefix (delta : Int) :
    (blockOut delta s).afterPrefix = s.afterPrefix := by simp [blockOut, putBlockIoFlags]
@[simp] theorem blockOut_halted (delta : Int) :
    (blockOut delta s).halted = s.halted := by simp [blockOut, putBlockIoFlags]
@[simp] theorem blockOut_cycles (delta : Int) :
    (blockOut delta s).cycles = s.cycles := by simp [blockOut, putBlockIoFlags]
@[simp] theorem blockOut_fault (delta : Int) :
    (blockOut delta s).fault = s.fault := by simp [blockOut, putBlockIoFlags]
@[simp] theorem blockOut_mem (delta : Int) : (blockOut delta s).mem = s.mem := by simp [blockOut, putBlockIoFlags]
@[simp] theorem blockOut_params (delta : Int) :
    (blockOut delta s).params = s.params := by simp [blockOut, putBlockIoFlags]
@[simp] theorem blockOut_status (delta : Int) :
    (blockOut delta s).status = s.status := by simp [blockOut, putBlockIoFlags]

end Sys2Proof.Machine
end

