-- ==== Sys2Proof/Laws/Step.lean ====
section
/-! SUPPORT. What a fetch reads, and the four things a step of the core can do. -/

namespace Sys2Proof.Machine

variable (s : State)

@[simp] theorem arrayByte_logCall (c : HostCall) (a : Word) : arrayByte (logCall c s) a = arrayByte s a := rfl

/-- What a fetch of `n` bytes adds to the record of accesses. -/
def readsAt (s : State) (n : Nat) : List HostCall :=
  (List.range n).map fun k => .memRead (s.pc + BitVec.ofNat 16 k) (arrayByte s (s.pc + BitVec.ofNat 16 k))

/-- Where the array answers the four addresses from PC up, a fetch finds the instruction the four bytes there stand for,
reads exactly the bytes decode reads, and changes nothing but the record of accesses (R106). The bytes it reports are
the array's as far as they were read. -/
theorem fetch_plain (h : ∀ k, k < 4 → loadCell s.params.mapper (s.pc + BitVec.ofNat 16 k) ≠ none) :
    let b (k : Nat) : Byte := arrayByte s (s.pc + BitVec.ofNat 16 k)
    (fetch s).instr = decodeBytes (b 0) (b 1) (b 2) (b 3) ∧
      (fetch s).state = { s with calls := s.calls ++ readsAt s (bytesRead (b 0) (b 1)) } ∧
      faultBytes (fetch s).b0 (fetch s).b1 (fetch s).b2 (fetch s).b3 =
        [b 0, b 1, b 2, b 3].take (bytesRead (b 0) (b 1)) := by
  intro b
  have e0 := memRead_plain s (a := s.pc) (by simpa using h 0 (by omega))
  have h1 : loadCell s.params.mapper (s.pc + 1#16) ≠ none := h 1 (by omega)
  have h2 : loadCell s.params.mapper (s.pc + 2#16) ≠ none := h 2 (by omega)
  have h3 : loadCell s.params.mapper (s.pc + 3#16) ≠ none := h 3 (by omega)
  have c0 : arrayByte s s.pc = b 0 := by simp [b]
  have c1 : arrayByte s (s.pc + 1#16) = b 1 := rfl
  have c2 : arrayByte s (s.pc + 2#16) = b 2 := rfl
  have c3 : arrayByte s (s.pc + 3#16) = b 3 := rfl
  let s1 := logCall (.memRead s.pc (b 0)) s
  let s2 := logCall (.memRead (s.pc + 1#16) (b 1)) s1
  let s3 := logCall (.memRead (s.pc + 2#16) (b 2)) s2
  have e1 : memRead s1 (s.pc + 1#16) = (b 1, s2) := memRead_plain s1 h1
  have e2 : memRead s2 (s.pc + 2#16) = (b 2, s3) := memRead_plain s2 h2
  have e3 : memRead s3 (s.pc + 3#16) = (b 3, logCall (.memRead (s.pc + 3#16) (b 3)) s3) := memRead_plain s3 h3
  have hb := bytesRead_bounds (b 0) (b 1)
  have hs : fetch s = if isPrefixByte (b 0) then fetchPrefixed (b 0) s.pc s1 else fetchPlain (b 0) s.pc s1 := by
    unfold fetch
    rw [e0, c0]
  rw [hs]
  cases hp : isPrefixByte (b 0)
  · have hl := hb.2 hp
    have hn : bytesRead (b 0) 0#8 = bytesRead (b 0) (b 1) := by rw [bytesRead_plain _ hp, bytesRead_plain _ hp]
    have hd := bytesRead_plain (b 1) hp
    simp only [Bool.false_eq_true, if_false, fetchPlain, hn, e1, e2, Fetched.instr]
    obtain e | e | e : bytesRead (b 0) (b 1) = 1 ∨ bytesRead (b 0) (b 1) = 2 ∨ bytesRead (b 0) (b 1) = 3 := by omega
    · simp only [e, decodeBytes_plain _ _ _ hp]
      refine ⟨(decodeMain_one (b 0) (b 1) (b 2) (by omega)).symm, ?_, by simp [faultBytes, hn, e]⟩
      simp [readsAt, List.range_succ, s1, logCall, c0]
    · simp only [e, decodeBytes_plain _ _ _ hp]
      refine ⟨(decodeMain_two (b 0) (b 1) (b 2) (by omega)).symm, ?_, by simp [faultBytes, e]⟩
      simp [readsAt, List.range_succ, s1, s2, logCall, c0, c1]
    · simp only [e, decodeBytes_plain _ _ _ hp]
      refine ⟨trivial, ?_, by simp [faultBytes, e]⟩
      simp [readsAt, List.range_succ, s1, s2, s3, logCall, c0, c1, c2]
  · have hl := hb.1 hp
    simp only [if_true, fetchPrefixed, e1, e2, e3, Fetched.instr]
    obtain e | e | e : bytesRead (b 0) (b 1) = 2 ∨ bytesRead (b 0) (b 1) = 3 ∨ bytesRead (b 0) (b 1) = 4 := by omega
    · simp only [e]
      refine ⟨(decodeBytes_two _ _ _ (by omega) hp).symm, ?_, by simp [faultBytes, e]⟩
      simp [readsAt, List.range_succ, s1, s2, logCall, c0, c1]
    · simp only [e]
      refine ⟨(decodeBytes_three _ _ _ (by omega) hp).symm, ?_, by simp [faultBytes, e]⟩
      simp [readsAt, List.range_succ, s1, s2, s3, logCall, c0, c1, c2]
    · simp only [e]
      refine ⟨by simp, ?_, by simp [faultBytes, e]⟩
      simp [readsAt, List.range_succ, s1, s2, s3, logCall, c0, c1, c2, c3]

/-- The bytes a fetch reports are the ones it read, be they the array's or the host's, in order (R106, R401). -/
theorem fetch_calls :
    let bytes := faultBytes (fetch s).b0 (fetch s).b1 (fetch s).b2 (fetch s).b3
    (fetch s).state.calls =
      s.calls ++ (List.range bytes.length).map fun k => .memRead (s.pc + BitVec.ofNat 16 k) (bytes.getD k 0#8) := by
  unfold fetch
  cases hp : isPrefixByte (memRead s s.pc).1
  · have hl := (bytesRead_bounds (memRead s s.pc).1 0#8).2 hp
    have hr (b1 : Byte) : bytesRead (memRead s s.pc).1 b1 = bytesRead (memRead s s.pc).1 0#8 := by
      rw [bytesRead_plain _ hp, bytesRead_plain _ hp]
    simp only [hp, Bool.false_eq_true, if_false, fetchPlain]
    obtain e | e | e : bytesRead (memRead s s.pc).1 0#8 = 1 ∨ bytesRead (memRead s s.pc).1 0#8 = 2 ∨
        bytesRead (memRead s s.pc).1 0#8 = 3 := by omega
    all_goals simp [e, faultBytes, hr, List.range_succ]
  · have hl := (bytesRead_bounds (memRead s s.pc).1 (memRead (memRead s s.pc).2 (s.pc + 1#16)).1).1 hp
    simp only [hp, if_true, fetchPrefixed]
    generalize hn : bytesRead (memRead s s.pc).1 (memRead (memRead s s.pc).2 (s.pc + 1#16)).1 = n at hl
    obtain e | e | e : n = 2 ∨ n = 3 ∨ n = 4 := by omega
    all_goals simp [e, hn, faultBytes, List.range_succ]

/-! ### A fetch, the host's answers included, changes the record of accesses and what the host has answered, and nothing else -/

/-- The fields a fetch leaves alone. -/
structure FetchKeeps (s u : State) : Prop where
  main : u.main = s.main
  alt : u.alt = s.alt
  ix : u.ix = s.ix
  iy : u.iy = s.iy
  sp : u.sp = s.sp
  pc : u.pc = s.pc
  i : u.i = s.i
  r : u.r = s.r
  iff1 : u.iff1 = s.iff1
  iff2 : u.iff2 = s.iff2
  im : u.im = s.im
  intLine : u.intLine = s.intLine
  intData : u.intData = s.intData
  nmiPending : u.nmiPending = s.nmiPending
  eiInhibit : u.eiInhibit = s.eiInhibit
  afterPrefix : u.afterPrefix = s.afterPrefix
  halted : u.halted = s.halted
  cycles : u.cycles = s.cycles
  fault : u.fault = s.fault
  mem : u.mem = s.mem
  params : u.params = s.params
  status : u.status = s.status

theorem fetchKeeps_memRead {t : State} (a : Word) (h : FetchKeeps s t) : FetchKeeps s (memRead t a).2 := by
  constructor <;> simp [h.main, h.alt, h.ix, h.iy, h.sp, h.pc, h.i, h.r, h.iff1, h.iff2, h.im, h.intLine, h.intData,
    h.nmiPending, h.eiInhibit, h.afterPrefix, h.halted, h.cycles, h.fault, h.mem, h.params, h.status]

/-- What every fetch keeps (R106). -/
theorem fetch_keeps : FetchKeeps s (fetch s).state := by
  have h0 : FetchKeeps s s := by constructor <;> rfl
  have h1 := fetchKeeps_memRead s s.pc h0
  unfold fetch fetchPrefixed fetchPlain
  dsimp only
  split
  · split
    all_goals
      first
        | exact fetchKeeps_memRead s _ h1
        | exact fetchKeeps_memRead s _ (fetchKeeps_memRead s _ h1)
        | exact fetchKeeps_memRead s _ (fetchKeeps_memRead s _ (fetchKeeps_memRead s _ h1))
  · split
    all_goals
      first
        | exact h1
        | exact fetchKeeps_memRead s _ h1
        | exact fetchKeeps_memRead s _ (fetchKeeps_memRead s _ h1)

/-- The four things a step of a core that has one can do (R410): take the NMI, take the maskable interrupt, idle while halted,
or fetch. -/
theorem step_cases (ha : s.params.arch = .z80) (hf : s.fault = none) :
    (nmiDue s = true ∧ step s = .next (acceptNmi { s with calls := [] })) ∨
      (nmiDue s = false ∧ maskableDue s = true ∧ step s = .next (acceptMaskable { s with calls := [] })) ∨
      (nmiDue s = false ∧ maskableDue s = false ∧ s.halted = true ∧ step s = .next (idleStep (passBoundary s))) ∨
      (nmiDue s = false ∧ maskableDue s = false ∧ s.halted = false ∧ step s = fetchAndExecute (passBoundary s)) := by
  unfold step cycle
  simp only [ha, hf, boundaryStep]
  cases nmiDue s <;> cases maskableDue s <;> cases s.halted <;> simp

/-- A step that answers a next state started from the Z80 map and no fault (R37, R3). -/
theorem steppable_of_step {u : State} (h : step s = .next u) : s.params.arch = .z80 ∧ s.fault = none := by
  unfold step cycle at h
  split at h
  · cases h
  · rename_i ha
    split at h
    · cases h
    · rename_i hf
      exact ⟨ha, hf⟩

end Sys2Proof.Machine
end

