-- ==== Sys2Proof/Laws/Lines.lean ====
section
/-! SUPPORT. The interrupt inputs pass through every operation: no instruction and no fetch reads or changes `nmi_pending` or
`int_line` (10_state.md R33). -/

namespace Sys2Proof.Machine

variable (s : State) (n l : Bool)

/-- The state with the two interrupt requests replaced. -/
def withLines (n l : Bool) (s : State) : State := { s with nmiPending := n, intLine := l }

/-- An outcome with the two interrupt requests of its next state replaced. -/
def Result.withLines (n l : Bool) : Result → Result
  | .next u => .next (Machine.withLines n l u)
  | .fault k => .fault k
  | .refused k => .refused k

@[simp] theorem hostByte_lines : hostByte (withLines n l s) = ((hostByte s).1, withLines n l (hostByte s).2) := by
  cases s with
  | mk main alt ix iy sp pc i r iff1 iff2 im il id np ei ap ha cy fa mem pa st hr ca dr => cases hr <;> rfl
@[simp] theorem logCall_lines (c : HostCall) : logCall c (withLines n l s) = withLines n l (logCall c s) := rfl
@[simp] theorem peek_lines (a : Word) : peek (withLines n l s) a = peek s a := rfl
@[simp] theorem withLines_main : (withLines n l s).main = s.main := rfl
@[simp] theorem withLines_alt : (withLines n l s).alt = s.alt := rfl
@[simp] theorem withLines_pc : (withLines n l s).pc = s.pc := rfl
@[simp] theorem withLines_sp : (withLines n l s).sp = s.sp := rfl
@[simp] theorem withLines_i : (withLines n l s).i = s.i := rfl
@[simp] theorem withLines_r : (withLines n l s).r = s.r := rfl
@[simp] theorem withLines_iff1 : (withLines n l s).iff1 = s.iff1 := rfl
@[simp] theorem withLines_iff2 : (withLines n l s).iff2 = s.iff2 := rfl
@[simp] theorem withLines_halted : (withLines n l s).halted = s.halted := rfl
@[simp] theorem withLines_eiInhibit : (withLines n l s).eiInhibit = s.eiInhibit := rfl
@[simp] theorem withLines_afterPrefix : (withLines n l s).afterPrefix = s.afterPrefix := rfl
@[simp] theorem withLines_params : (withLines n l s).params = s.params := rfl
@[simp] theorem flags_lines : flags (withLines n l s) = flags s := rfl
@[simp] theorem memRead_lines (a : Word) :
    memRead (withLines n l s) a = ((memRead s a).1, withLines n l (memRead s a).2) := by
  unfold memRead
  simp only [withLines_params, peek_lines, hostByte_lines, logCall_lines]
  split <;> rfl
@[simp] theorem memWrite_lines (a : Word) (v : Byte) :
    memWrite (withLines n l s) a v = withLines n l (memWrite s a v) := by
  unfold memWrite
  simp only [withLines_params]
  split <;> rfl
@[simp] theorem memRead16_lines (a : Word) :
    memRead16 (withLines n l s) a = ((memRead16 s a).1, withLines n l (memRead16 s a).2) := by
  simp [memRead16]
@[simp] theorem memWrite16_lines (a w : Word) :
    memWrite16 (withLines n l s) a w = withLines n l (memWrite16 s a w) := by
  simp [memWrite16]
@[simp] theorem push16_lines (v : Word) : push16 v (withLines n l s) = withLines n l (push16 v s) := by
  simp only [push16, memWrite_lines, withLines_sp]
  rfl
@[simp] theorem pop16_lines : pop16 (withLines n l s) = ((pop16 s).1, withLines n l (pop16 s).2) := by
  simp only [pop16, memRead_lines, withLines_sp]
  rfl
@[simp] theorem ioRead_lines (p : Word) :
    ioRead (withLines n l s) p = ((ioRead s p).1, withLines n l (ioRead s p).2) := by
  simp [ioRead]
@[simp] theorem ioWrite_lines (p : Word) (v : Byte) :
    ioWrite (withLines n l s) p v = withLines n l (ioWrite s p v) := rfl
@[simp] theorem m1_lines (k : Nat) :
    m1 k (withLines n l s) = withLines n l (m1 k s) := rfl
@[simp] theorem setReg_lines (q : Reg8) (v : Byte) :
    setReg q v (withLines n l s) = withLines n l (setReg q v s) := rfl
@[simp] theorem setMain_lines (g : Regs) :
    setMain g (withLines n l s) = withLines n l (setMain g s) := rfl
@[simp] theorem setPair_lines (rr : RegPair) (w : Word) :
    setPair rr w (withLines n l s) = withLines n l (setPair rr w s) := by cases rr <;> rfl
@[simp] theorem setStackPair_lines (qq : StackPair) (w : Word) :
    setStackPair qq w (withLines n l s) = withLines n l (setStackPair qq w s) := by cases qq <;> rfl
@[simp] theorem setXy_lines (xy : IndexReg) (w : Word) :
    setXy xy w (withLines n l s) = withLines n l (setXy xy w s) := by cases xy <;> rfl
@[simp] theorem getReg_lines (q : Reg8) : getReg q (withLines n l s) = getReg q s := rfl
@[simp] theorem getXy_lines (xy : IndexReg) : getXy xy (withLines n l s) = getXy xy s := by cases xy <;> rfl
@[simp] theorem getPair_lines (rr : RegPair) : getPair rr (withLines n l s) = getPair rr s := by cases rr <;> rfl
@[simp] theorem getStackPair_lines (qq : StackPair) : getStackPair qq (withLines n l s) = getStackPair qq s := by cases qq <;> rfl
@[simp] theorem getIndexPair_lines (xy : IndexReg) (pp : IndexPair) : getIndexPair xy pp (withLines n l s) = getIndexPair xy pp s := by
  cases pp <;> simp [getIndexPair]
@[simp] theorem getHalf_lines (xy : IndexReg) (h : Half) : getHalf xy h (withLines n l s) = getHalf xy h s := by simp [getHalf]
@[simp] theorem setHalf_lines (xy : IndexReg) (h : Half) (v : Byte) :
    setHalf xy h v (withLines n l s) = withLines n l (setHalf xy h v s) := by simp [setHalf]
@[simp] theorem getHalfReg_lines (xy : IndexReg) (q : HalfReg) : getHalfReg xy q (withLines n l s) = getHalfReg xy q s := by
  cases q <;> simp [getHalfReg]
@[simp] theorem setHalfReg_lines (xy : IndexReg) (q : HalfReg) (v : Byte) :
    setHalfReg xy q v (withLines n l s) = withLines n l (setHalfReg xy q v s) := by
  cases q <;> simp [setHalfReg]
@[simp] theorem putFlags_lines (mask : Byte) (b : FlagBits) :
    putFlags mask b (withLines n l s) = withLines n l (putFlags mask b s) := by
  unfold putFlags
  simp only [withLines_params]
  split <;> rfl
@[simp] theorem putFlagsFree_lines (mask : Byte) (b : FlagBits) :
    putFlagsFree mask b (withLines n l s) = withLines n l (putFlagsFree mask b s) := rfl
@[simp] theorem condHolds_lines (cc : Cond) : condHolds cc (withLines n l s) = condHolds cc s := by cases cc <;> rfl
@[simp] theorem jrCondHolds_lines (cc : JrCond) : jrCondHolds cc (withLines n l s) = jrCondHolds cc s := by cases cc <;> rfl
@[simp] theorem relTarget_lines (e : Byte) : relTarget e (withLines n l s) = relTarget e s := rfl
@[simp] theorem xyAddr_lines (xy : IndexReg) (d : Byte) : xyAddr xy d (withLines n l s) = xyAddr xy d s := by simp [xyAddr]
@[simp] theorem exchangeSp_lines (w : Word) :
    exchangeSp w (withLines n l s) = ((exchangeSp w s).1, withLines n l (exchangeSp w s).2) := by simp [exchangeSp]
@[simp] theorem blockMove_lines (delta : Word) :
    blockMove delta (withLines n l s) = withLines n l (blockMove delta s) := by simp [blockMove]
@[simp] theorem blockSearch_lines (delta : Word) :
    blockSearch delta (withLines n l s) = ((blockSearch delta s).1, withLines n l (blockSearch delta s).2) := by simp [blockSearch]
@[simp] theorem blockIn_lines (delta : Int) :
    blockIn delta (withLines n l s) = withLines n l (blockIn delta s) := by
  simp [blockIn, putBlockIoFlags]
@[simp] theorem blockOut_lines (delta : Int) :
    blockOut delta (withLines n l s) = withLines n l (blockOut delta s) := by
  simp [blockOut, putBlockIoFlags]
@[simp] theorem stepMem_lines (f : Byte → FlagBits → Byte × FlagBits) (a : Word) :
    stepMem f a (withLines n l s) = withLines n l (stepMem f a s) := by simp [stepMem]
@[simp] theorem rotMem_lines (f : Byte → Bool → Byte × Bool) (a : Word) :
    rotMem f a (withLines n l s) = ((rotMem f a s).1, withLines n l (rotMem f a s).2) := by simp [rotMem]
@[simp] theorem bitMem_lines (f : Byte → Byte) (a : Word) :
    bitMem f a (withLines n l s) = ((bitMem f a s).1, withLines n l (bitMem f a s).2) := by simp [bitMem]
@[simp] theorem aluAdd_lines (v : Byte) :
    aluAdd v (withLines n l s) = withLines n l (aluAdd v s) := by simp [aluAdd]
@[simp] theorem aluAdc_lines (v : Byte) :
    aluAdc v (withLines n l s) = withLines n l (aluAdc v s) := by simp [aluAdc]
@[simp] theorem aluSub_lines (v : Byte) :
    aluSub v (withLines n l s) = withLines n l (aluSub v s) := by simp [aluSub]
@[simp] theorem aluSbc_lines (v : Byte) :
    aluSbc v (withLines n l s) = withLines n l (aluSbc v s) := by simp [aluSbc]
@[simp] theorem aluAnd_lines (v : Byte) :
    aluAnd v (withLines n l s) = withLines n l (aluAnd v s) := by simp [aluAnd]
@[simp] theorem aluXor_lines (v : Byte) :
    aluXor v (withLines n l s) = withLines n l (aluXor v s) := by simp [aluXor]
@[simp] theorem aluOr_lines (v : Byte) :
    aluOr v (withLines n l s) = withLines n l (aluOr v s) := by simp [aluOr]
@[simp] theorem aluCp_lines (v : Byte) :
    aluCp v (withLines n l s) = withLines n l (aluCp v s) := by simp [aluCp]
@[simp] theorem retire_lines (len t : Nat) : retire len t (withLines n l s) = Result.withLines n l (retire len t s) := rfl
@[simp] theorem jumpTo_lines (a : Word) (t : Nat) : jumpTo a t (withLines n l s) = Result.withLines n l (jumpTo a t s) := rfl
@[simp] theorem repeatOrRetire_lines (b : Bool) :
    repeatOrRetire b (withLines n l s) = Result.withLines n l (repeatOrRetire b s) := by
  cases b <;> rfl
@[simp] theorem returnFromInterrupt_lines :
    returnFromInterrupt (withLines n l s) = Result.withLines n l (returnFromInterrupt s) := by
  unfold returnFromInterrupt
  rw [pop16_lines]
  rfl
@[simp] theorem fetchPrefixed_lines (b0 : Byte) (pc : Word) :
    fetchPrefixed b0 pc (withLines n l s) =
      { fetchPrefixed b0 pc s with state := withLines n l (fetchPrefixed b0 pc s).state } := by
  simp only [fetchPrefixed, memRead_lines]
  split <;> rfl
@[simp] theorem fetchPlain_lines (b0 : Byte) (pc : Word) :
    fetchPlain b0 pc (withLines n l s) =
      { fetchPlain b0 pc s with state := withLines n l (fetchPlain b0 pc s).state } := by
  simp only [fetchPlain, memRead_lines]
  split <;> rfl
@[simp] theorem fetch_lines :
    fetch (withLines n l s) = { fetch s with state := withLines n l (fetch s).state } := by
  simp only [fetch, memRead_lines, withLines_pc]
  split <;> simp

/-- No instruction reads or changes the interrupt requests (R33). -/
theorem exec_lines (i : Instr) : exec i (withLines n l s) = Result.withLines n l (exec i s) := by
  cases i
  case nop => rfl
  case exAfAf => rfl
  case djnz => simp [exec, execDjnz]; split <;> rfl
  case jr => simp [exec, execJr]
  case jrCc => simp [exec, execJrCc]; split <;> rfl
  case ldRrNn => simp [exec, execLdRrNn]
  case addHlRr => simp [exec, execAddHlRr]
  case ldMBcA => simp [exec, execLdMBcA]
  case ldMDeA => simp [exec, execLdMDeA]
  case ldMNnHl => simp [exec, execLdMNnHl]
  case ldMNnA => simp [exec, execLdMNnA]
  case ldAMBc => simp [exec, execLdAMBc]
  case ldAMDe => simp [exec, execLdAMDe]
  case ldHlMNn => simp [exec, execLdHlMNn]
  case ldAMNn => simp [exec, execLdAMNn]
  case incRr => simp [exec, execIncRr]
  case decRr => simp [exec, execDecRr]
  case incR => simp [exec, execIncR, stepReg]
  case incMHl => simp [exec, execIncMHl]
  case decR => simp [exec, execDecR, stepReg]
  case decMHl => simp [exec, execDecMHl]
  case ldRN => simp [exec, execLdRN]
  case ldMHlN => simp [exec, execLdMHlN]
  case rlca => simp [exec, execRlca, rotAcc]
  case rrca => simp [exec, execRrca, rotAcc]
  case rla => simp [exec, execRla, rotAcc]
  case rra => simp [exec, execRra, rotAcc]
  case daa => simp [exec, execDaa]
  case cpl => simp [exec, execCpl]
  case scf => simp [exec, execScf]
  case ccf => simp [exec, execCcf]
  case ldRR => simp [exec, execLdRR]
  case ldRMHl => simp [exec, execLdRMHl]
  case ldMHlR => simp [exec, execLdMHlR]
  case halt => rfl
  case addR => simp [exec, execAddR, aluReg]
  case addMHl => simp [exec, execAddMHl, aluMHl]
  case addN => simp [exec, execAddN, aluImm]
  case adcR => simp [exec, execAdcR, aluReg]
  case adcMHl => simp [exec, execAdcMHl, aluMHl]
  case adcN => simp [exec, execAdcN, aluImm]
  case subR => simp [exec, execSubR, aluReg]
  case subMHl => simp [exec, execSubMHl, aluMHl]
  case subN => simp [exec, execSubN, aluImm]
  case sbcR => simp [exec, execSbcR, aluReg]
  case sbcMHl => simp [exec, execSbcMHl, aluMHl]
  case sbcN => simp [exec, execSbcN, aluImm]
  case andR => simp [exec, execAndR, aluReg]
  case andMHl => simp [exec, execAndMHl, aluMHl]
  case andN => simp [exec, execAndN, aluImm]
  case xorR => simp [exec, execXorR, aluReg]
  case xorMHl => simp [exec, execXorMHl, aluMHl]
  case xorN => simp [exec, execXorN, aluImm]
  case orR => simp [exec, execOrR, aluReg]
  case orMHl => simp [exec, execOrMHl, aluMHl]
  case orN => simp [exec, execOrN, aluImm]
  case cpR => simp [exec, execCpR, aluReg]
  case cpMHl => simp [exec, execCpMHl, aluMHl]
  case cpN => simp [exec, execCpN, aluImm]
  case retCc => simp [exec, execRetCc]; split <;> rfl
  case popQq => simp [exec, execPopQq]
  case ret => simp [exec, execRet]
  case exx => rfl
  case jpHl => rfl
  case ldSpHl => rfl
  case jpCc => simp [exec, execJpCc]; split <;> rfl
  case jp => rfl
  case outNA => simp [exec, execOutNA]
  case inAN => simp [exec, execInAN]
  case exMSpHl => simp [exec, execExMSpHl]
  case exDeHl => simp [exec, execExDeHl]
  case di => rfl
  case ei => rfl
  case callCc => simp [exec, execCallCc]; split <;> rfl
  case pushQq => simp [exec, execPushQq]
  case call => simp [exec, execCall]
  case rst => simp [exec, execRst]
  case rlcR => simp [exec, execRlcR, rotReg]
  case rlcMHl => simp [exec, execRlcMHl, rotMHl]
  case rrcR => simp [exec, execRrcR, rotReg]
  case rrcMHl => simp [exec, execRrcMHl, rotMHl]
  case rlR => simp [exec, execRlR, rotReg]
  case rlMHl => simp [exec, execRlMHl, rotMHl]
  case rrR => simp [exec, execRrR, rotReg]
  case rrMHl => simp [exec, execRrMHl, rotMHl]
  case slaR => simp [exec, execSlaR, rotReg]
  case slaMHl => simp [exec, execSlaMHl, rotMHl]
  case sraR => simp [exec, execSraR, rotReg]
  case sraMHl => simp [exec, execSraMHl, rotMHl]
  case sllR => simp [exec, execSllR, rotReg]
  case sllMHl => simp [exec, execSllMHl, rotMHl]
  case srlR => simp [exec, execSrlR, rotReg]
  case srlMHl => simp [exec, execSrlMHl, rotMHl]
  case bitR => simp [exec, execBitR]
  case bitMHl => simp [exec, execBitMHl]
  case resR => simp [exec, execResR, bitOpReg]
  case resMHl => simp [exec, execResMHl, bitOpMHl]
  case setR => simp [exec, execSetR, bitOpReg]
  case setMHl => simp [exec, execSetMHl, bitOpMHl]
  case inRC => simp [exec, execInRC]
  case inFC => simp [exec, execInFC]
  case outCR => simp [exec, execOutCR]
  case outC0 => simp [exec, execOutC0]
  case sbcHlRr => simp [exec, execSbcHlRr]
  case adcHlRr => simp [exec, execAdcHlRr]
  case ldMNnRr => simp [exec, execLdMNnRr]
  case ldRrMNn => simp [exec, execLdRrMNn]
  case neg => simp [exec, execNeg, negateA]
  case negAlias => simp [exec, execNegAlias, negateA]
  case retn => simp [exec, execRetn]
  case reti => simp [exec, execReti]
  case retnAlias => simp [exec, execRetnAlias]
  case im0 => rfl
  case im1 => rfl
  case im2 => rfl
  case imAlias => rfl
  case ldIA => rfl
  case ldRA => rfl
  case ldAI => simp [exec, execLdAI]
  case ldAR => simp [exec, execLdAR]
  case rrd => simp [exec, execRrd]
  case rld => simp [exec, execRld]
  case nopEd77 => simp [exec, execNopEd77, edNop]
  case ldi => simp [exec, execLdi]
  case cpi => simp [exec, execCpi]
  case ini => simp [exec, execIni]
  case outi => simp [exec, execOuti]
  case ldd => simp [exec, execLdd]
  case cpd => simp [exec, execCpd]
  case ind => simp [exec, execInd]
  case outd => simp [exec, execOutd]
  case ldir => simp [exec, execLdir]
  case cpir => simp [exec, execCpir]
  case inir => simp [exec, execInir]
  case otir => simp [exec, execOtir]
  case lddr => simp [exec, execLddr]
  case cpdr => simp [exec, execCpdr]
  case indr => simp [exec, execIndr]
  case otdr => simp [exec, execOtdr]
  case nopEdX0 => simp [exec, execNopEdX0, edNop]
  case nopEdX3 => simp [exec, execNopEdX3, edNop]
  case nopEd80 => simp [exec, execNopEd80, edNop]
  case nopEdA4 => simp [exec, execNopEdA4, edNop]
  case addXyRr => simp [exec, execAddXyRr]
  case ldXyNn => simp [exec, execLdXyNn]
  case ldMNnXy => simp [exec, execLdMNnXy]
  case ldXyMNn => simp [exec, execLdXyMNn]
  case incXy => simp [exec, execIncXy]
  case decXy => simp [exec, execDecXy]
  case incMXyd => simp [exec, execIncMXyd]
  case decMXyd => simp [exec, execDecMXyd]
  case ldMXydN => simp [exec, execLdMXydN]
  case ldRMXyd => simp [exec, execLdRMXyd]
  case ldMXydR => simp [exec, execLdMXydR]
  case addMXyd => simp [exec, execAddMXyd, aluMXyd]
  case adcMXyd => simp [exec, execAdcMXyd, aluMXyd]
  case subMXyd => simp [exec, execSubMXyd, aluMXyd]
  case sbcMXyd => simp [exec, execSbcMXyd, aluMXyd]
  case andMXyd => simp [exec, execAndMXyd, aluMXyd]
  case xorMXyd => simp [exec, execXorMXyd, aluMXyd]
  case orMXyd => simp [exec, execOrMXyd, aluMXyd]
  case cpMXyd => simp [exec, execCpMXyd, aluMXyd]
  case popXy => simp [exec, execPopXy]
  case exMSpXy => simp [exec, execExMSpXy]
  case pushXy => simp [exec, execPushXy]
  case jpXy => rfl
  case ldSpXy => rfl
  case incXyh => simp [exec, execIncXyh, stepHalf]
  case decXyh => simp [exec, execDecXyh, stepHalf]
  case ldXyhN => simp [exec, execLdXyhN]
  case ldRRXyh => simp [exec, execLdRRXyh]
  case addXyh => simp [exec, execAddXyh, aluHalf]
  case adcXyh => simp [exec, execAdcXyh, aluHalf]
  case subXyh => simp [exec, execSubXyh, aluHalf]
  case sbcXyh => simp [exec, execSbcXyh, aluHalf]
  case andXyh => simp [exec, execAndXyh, aluHalf]
  case xorXyh => simp [exec, execXorXyh, aluHalf]
  case orXyh => simp [exec, execOrXyh, aluHalf]
  case cpXyh => simp [exec, execCpXyh, aluHalf]
  case ignoredIndexPrefix => rfl
  case rlcMXyd => simp [exec, execRlcMXyd, rotMXyd]
  case rlcMXydR => simp [exec, execRlcMXydR, rotMXydR]
  case rrcMXyd => simp [exec, execRrcMXyd, rotMXyd]
  case rrcMXydR => simp [exec, execRrcMXydR, rotMXydR]
  case rlMXyd => simp [exec, execRlMXyd, rotMXyd]
  case rlMXydR => simp [exec, execRlMXydR, rotMXydR]
  case rrMXyd => simp [exec, execRrMXyd, rotMXyd]
  case rrMXydR => simp [exec, execRrMXydR, rotMXydR]
  case slaMXyd => simp [exec, execSlaMXyd, rotMXyd]
  case slaMXydR => simp [exec, execSlaMXydR, rotMXydR]
  case sraMXyd => simp [exec, execSraMXyd, rotMXyd]
  case sraMXydR => simp [exec, execSraMXydR, rotMXydR]
  case sllMXyd => simp [exec, execSllMXyd, rotMXyd]
  case sllMXydR => simp [exec, execSllMXydR, rotMXydR]
  case srlMXyd => simp [exec, execSrlMXyd, rotMXyd]
  case srlMXydR => simp [exec, execSrlMXydR, rotMXydR]
  case bitMXyd => simp [exec, execBitMXyd, bitIndexed]
  case bitMXydAlias => simp [exec, execBitMXydAlias, bitIndexed]
  case resMXyd => simp [exec, execResMXyd, bitOpMXyd]
  case resMXydR => simp [exec, execResMXydR, bitOpMXydR]
  case setMXyd => simp [exec, execSetMXyd, bitOpMXyd]
  case setMXydR => simp [exec, execSetMXydR, bitOpMXydR]

end Sys2Proof.Machine
end

