-- ==== Sys2Proof/Laws/PerInstr.lean ====
section
/-! SUPPORT. A statement about every instruction as syntax, one lemma for each constructor: the encoding of an instruction has
the length the instruction counts PC by (30_encoding.md R90, R91). -/

/-- The encoder writes as many bytes as the opcode table gives the row. -/
def Sys2Proof.Laws.EncodedLength.Statement (i : Sys2Proof.Instr) : Prop := (Sys2Proof.encode i).length = i.length

namespace Sys2Proof

theorem Laws.EncodedLength.nop : Laws.EncodedLength.Statement (.nop) := rfl
theorem Laws.EncodedLength.exAfAf : Laws.EncodedLength.Statement (.exAfAf) := rfl
theorem Laws.EncodedLength.djnz (e : Byte) : Laws.EncodedLength.Statement (.djnz e) := rfl
theorem Laws.EncodedLength.jr (e : Byte) : Laws.EncodedLength.Statement (.jr e) := rfl
theorem Laws.EncodedLength.jrCc (cc : JrCond) (e : Byte) : Laws.EncodedLength.Statement (.jrCc cc e) := rfl
theorem Laws.EncodedLength.ldRrNn (rr : RegPair) (nn : Word) : Laws.EncodedLength.Statement (.ldRrNn rr nn) := rfl
theorem Laws.EncodedLength.addHlRr (rr : RegPair) : Laws.EncodedLength.Statement (.addHlRr rr) := rfl
theorem Laws.EncodedLength.ldMBcA : Laws.EncodedLength.Statement (.ldMBcA) := rfl
theorem Laws.EncodedLength.ldMDeA : Laws.EncodedLength.Statement (.ldMDeA) := rfl
theorem Laws.EncodedLength.ldMNnHl (nn : Word) : Laws.EncodedLength.Statement (.ldMNnHl nn) := rfl
theorem Laws.EncodedLength.ldMNnA (nn : Word) : Laws.EncodedLength.Statement (.ldMNnA nn) := rfl
theorem Laws.EncodedLength.ldAMBc : Laws.EncodedLength.Statement (.ldAMBc) := rfl
theorem Laws.EncodedLength.ldAMDe : Laws.EncodedLength.Statement (.ldAMDe) := rfl
theorem Laws.EncodedLength.ldHlMNn (nn : Word) : Laws.EncodedLength.Statement (.ldHlMNn nn) := rfl
theorem Laws.EncodedLength.ldAMNn (nn : Word) : Laws.EncodedLength.Statement (.ldAMNn nn) := rfl
theorem Laws.EncodedLength.incRr (rr : RegPair) : Laws.EncodedLength.Statement (.incRr rr) := rfl
theorem Laws.EncodedLength.decRr (rr : RegPair) : Laws.EncodedLength.Statement (.decRr rr) := rfl
theorem Laws.EncodedLength.incR (r : Reg8) : Laws.EncodedLength.Statement (.incR r) := rfl
theorem Laws.EncodedLength.incMHl : Laws.EncodedLength.Statement (.incMHl) := rfl
theorem Laws.EncodedLength.decR (r : Reg8) : Laws.EncodedLength.Statement (.decR r) := rfl
theorem Laws.EncodedLength.decMHl : Laws.EncodedLength.Statement (.decMHl) := rfl
theorem Laws.EncodedLength.ldRN (r : Reg8) (n : Byte) : Laws.EncodedLength.Statement (.ldRN r n) := rfl
theorem Laws.EncodedLength.ldMHlN (n : Byte) : Laws.EncodedLength.Statement (.ldMHlN n) := rfl
theorem Laws.EncodedLength.rlca : Laws.EncodedLength.Statement (.rlca) := rfl
theorem Laws.EncodedLength.rrca : Laws.EncodedLength.Statement (.rrca) := rfl
theorem Laws.EncodedLength.rla : Laws.EncodedLength.Statement (.rla) := rfl
theorem Laws.EncodedLength.rra : Laws.EncodedLength.Statement (.rra) := rfl
theorem Laws.EncodedLength.daa : Laws.EncodedLength.Statement (.daa) := rfl
theorem Laws.EncodedLength.cpl : Laws.EncodedLength.Statement (.cpl) := rfl
theorem Laws.EncodedLength.scf : Laws.EncodedLength.Statement (.scf) := rfl
theorem Laws.EncodedLength.ccf : Laws.EncodedLength.Statement (.ccf) := rfl
theorem Laws.EncodedLength.ldRR (dst : Reg8) (src : Reg8) : Laws.EncodedLength.Statement (.ldRR dst src) := rfl
theorem Laws.EncodedLength.ldRMHl (r : Reg8) : Laws.EncodedLength.Statement (.ldRMHl r) := rfl
theorem Laws.EncodedLength.ldMHlR (r : Reg8) : Laws.EncodedLength.Statement (.ldMHlR r) := rfl
theorem Laws.EncodedLength.halt : Laws.EncodedLength.Statement (.halt) := rfl
theorem Laws.EncodedLength.addR (r : Reg8) : Laws.EncodedLength.Statement (.addR r) := rfl
theorem Laws.EncodedLength.addMHl : Laws.EncodedLength.Statement (.addMHl) := rfl
theorem Laws.EncodedLength.addN (n : Byte) : Laws.EncodedLength.Statement (.addN n) := rfl
theorem Laws.EncodedLength.adcR (r : Reg8) : Laws.EncodedLength.Statement (.adcR r) := rfl
theorem Laws.EncodedLength.adcMHl : Laws.EncodedLength.Statement (.adcMHl) := rfl
theorem Laws.EncodedLength.adcN (n : Byte) : Laws.EncodedLength.Statement (.adcN n) := rfl
theorem Laws.EncodedLength.subR (r : Reg8) : Laws.EncodedLength.Statement (.subR r) := rfl
theorem Laws.EncodedLength.subMHl : Laws.EncodedLength.Statement (.subMHl) := rfl
theorem Laws.EncodedLength.subN (n : Byte) : Laws.EncodedLength.Statement (.subN n) := rfl
theorem Laws.EncodedLength.sbcR (r : Reg8) : Laws.EncodedLength.Statement (.sbcR r) := rfl
theorem Laws.EncodedLength.sbcMHl : Laws.EncodedLength.Statement (.sbcMHl) := rfl
theorem Laws.EncodedLength.sbcN (n : Byte) : Laws.EncodedLength.Statement (.sbcN n) := rfl
theorem Laws.EncodedLength.andR (r : Reg8) : Laws.EncodedLength.Statement (.andR r) := rfl
theorem Laws.EncodedLength.andMHl : Laws.EncodedLength.Statement (.andMHl) := rfl
theorem Laws.EncodedLength.andN (n : Byte) : Laws.EncodedLength.Statement (.andN n) := rfl
theorem Laws.EncodedLength.xorR (r : Reg8) : Laws.EncodedLength.Statement (.xorR r) := rfl
theorem Laws.EncodedLength.xorMHl : Laws.EncodedLength.Statement (.xorMHl) := rfl
theorem Laws.EncodedLength.xorN (n : Byte) : Laws.EncodedLength.Statement (.xorN n) := rfl
theorem Laws.EncodedLength.orR (r : Reg8) : Laws.EncodedLength.Statement (.orR r) := rfl
theorem Laws.EncodedLength.orMHl : Laws.EncodedLength.Statement (.orMHl) := rfl
theorem Laws.EncodedLength.orN (n : Byte) : Laws.EncodedLength.Statement (.orN n) := rfl
theorem Laws.EncodedLength.cpR (r : Reg8) : Laws.EncodedLength.Statement (.cpR r) := rfl
theorem Laws.EncodedLength.cpMHl : Laws.EncodedLength.Statement (.cpMHl) := rfl
theorem Laws.EncodedLength.cpN (n : Byte) : Laws.EncodedLength.Statement (.cpN n) := rfl
theorem Laws.EncodedLength.retCc (cc : Cond) : Laws.EncodedLength.Statement (.retCc cc) := rfl
theorem Laws.EncodedLength.popQq (qq : StackPair) : Laws.EncodedLength.Statement (.popQq qq) := rfl
theorem Laws.EncodedLength.ret : Laws.EncodedLength.Statement (.ret) := rfl
theorem Laws.EncodedLength.exx : Laws.EncodedLength.Statement (.exx) := rfl
theorem Laws.EncodedLength.jpHl : Laws.EncodedLength.Statement (.jpHl) := rfl
theorem Laws.EncodedLength.ldSpHl : Laws.EncodedLength.Statement (.ldSpHl) := rfl
theorem Laws.EncodedLength.jpCc (cc : Cond) (nn : Word) : Laws.EncodedLength.Statement (.jpCc cc nn) := rfl
theorem Laws.EncodedLength.jp (nn : Word) : Laws.EncodedLength.Statement (.jp nn) := rfl
theorem Laws.EncodedLength.outNA (n : Byte) : Laws.EncodedLength.Statement (.outNA n) := rfl
theorem Laws.EncodedLength.inAN (n : Byte) : Laws.EncodedLength.Statement (.inAN n) := rfl
theorem Laws.EncodedLength.exMSpHl : Laws.EncodedLength.Statement (.exMSpHl) := rfl
theorem Laws.EncodedLength.exDeHl : Laws.EncodedLength.Statement (.exDeHl) := rfl
theorem Laws.EncodedLength.di : Laws.EncodedLength.Statement (.di) := rfl
theorem Laws.EncodedLength.ei : Laws.EncodedLength.Statement (.ei) := rfl
theorem Laws.EncodedLength.callCc (cc : Cond) (nn : Word) : Laws.EncodedLength.Statement (.callCc cc nn) := rfl
theorem Laws.EncodedLength.pushQq (qq : StackPair) : Laws.EncodedLength.Statement (.pushQq qq) := rfl
theorem Laws.EncodedLength.call (nn : Word) : Laws.EncodedLength.Statement (.call nn) := rfl
theorem Laws.EncodedLength.rst (t : Code3) : Laws.EncodedLength.Statement (.rst t) := rfl
theorem Laws.EncodedLength.rlcR (r : Reg8) : Laws.EncodedLength.Statement (.rlcR r) := rfl
theorem Laws.EncodedLength.rlcMHl : Laws.EncodedLength.Statement (.rlcMHl) := rfl
theorem Laws.EncodedLength.rrcR (r : Reg8) : Laws.EncodedLength.Statement (.rrcR r) := rfl
theorem Laws.EncodedLength.rrcMHl : Laws.EncodedLength.Statement (.rrcMHl) := rfl
theorem Laws.EncodedLength.rlR (r : Reg8) : Laws.EncodedLength.Statement (.rlR r) := rfl
theorem Laws.EncodedLength.rlMHl : Laws.EncodedLength.Statement (.rlMHl) := rfl
theorem Laws.EncodedLength.rrR (r : Reg8) : Laws.EncodedLength.Statement (.rrR r) := rfl
theorem Laws.EncodedLength.rrMHl : Laws.EncodedLength.Statement (.rrMHl) := rfl
theorem Laws.EncodedLength.slaR (r : Reg8) : Laws.EncodedLength.Statement (.slaR r) := rfl
theorem Laws.EncodedLength.slaMHl : Laws.EncodedLength.Statement (.slaMHl) := rfl
theorem Laws.EncodedLength.sraR (r : Reg8) : Laws.EncodedLength.Statement (.sraR r) := rfl
theorem Laws.EncodedLength.sraMHl : Laws.EncodedLength.Statement (.sraMHl) := rfl
theorem Laws.EncodedLength.sllR (r : Reg8) : Laws.EncodedLength.Statement (.sllR r) := rfl
theorem Laws.EncodedLength.sllMHl : Laws.EncodedLength.Statement (.sllMHl) := rfl
theorem Laws.EncodedLength.srlR (r : Reg8) : Laws.EncodedLength.Statement (.srlR r) := rfl
theorem Laws.EncodedLength.srlMHl : Laws.EncodedLength.Statement (.srlMHl) := rfl
theorem Laws.EncodedLength.bitR (b : Code3) (r : Reg8) : Laws.EncodedLength.Statement (.bitR b r) := rfl
theorem Laws.EncodedLength.bitMHl (b : Code3) : Laws.EncodedLength.Statement (.bitMHl b) := rfl
theorem Laws.EncodedLength.resR (b : Code3) (r : Reg8) : Laws.EncodedLength.Statement (.resR b r) := rfl
theorem Laws.EncodedLength.resMHl (b : Code3) : Laws.EncodedLength.Statement (.resMHl b) := rfl
theorem Laws.EncodedLength.setR (b : Code3) (r : Reg8) : Laws.EncodedLength.Statement (.setR b r) := rfl
theorem Laws.EncodedLength.setMHl (b : Code3) : Laws.EncodedLength.Statement (.setMHl b) := rfl
theorem Laws.EncodedLength.inRC (r : Reg8) : Laws.EncodedLength.Statement (.inRC r) := rfl
theorem Laws.EncodedLength.inFC : Laws.EncodedLength.Statement (.inFC) := rfl
theorem Laws.EncodedLength.outCR (r : Reg8) : Laws.EncodedLength.Statement (.outCR r) := rfl
theorem Laws.EncodedLength.outC0 : Laws.EncodedLength.Statement (.outC0) := rfl
theorem Laws.EncodedLength.sbcHlRr (rr : RegPair) : Laws.EncodedLength.Statement (.sbcHlRr rr) := rfl
theorem Laws.EncodedLength.adcHlRr (rr : RegPair) : Laws.EncodedLength.Statement (.adcHlRr rr) := rfl
theorem Laws.EncodedLength.ldMNnRr (rr : RegPair) (nn : Word) : Laws.EncodedLength.Statement (.ldMNnRr rr nn) := rfl
theorem Laws.EncodedLength.ldRrMNn (rr : RegPair) (nn : Word) : Laws.EncodedLength.Statement (.ldRrMNn rr nn) := rfl
theorem Laws.EncodedLength.neg : Laws.EncodedLength.Statement (.neg) := rfl
theorem Laws.EncodedLength.negAlias (y : Code3) : Laws.EncodedLength.Statement (.negAlias y) := rfl
theorem Laws.EncodedLength.retn : Laws.EncodedLength.Statement (.retn) := rfl
theorem Laws.EncodedLength.reti : Laws.EncodedLength.Statement (.reti) := rfl
theorem Laws.EncodedLength.retnAlias (y : Code3) : Laws.EncodedLength.Statement (.retnAlias y) := rfl
theorem Laws.EncodedLength.im0 : Laws.EncodedLength.Statement (.im0) := rfl
theorem Laws.EncodedLength.im1 : Laws.EncodedLength.Statement (.im1) := rfl
theorem Laws.EncodedLength.im2 : Laws.EncodedLength.Statement (.im2) := rfl
theorem Laws.EncodedLength.imAlias (y : Code3) : Laws.EncodedLength.Statement (.imAlias y) := rfl
theorem Laws.EncodedLength.ldIA : Laws.EncodedLength.Statement (.ldIA) := rfl
theorem Laws.EncodedLength.ldRA : Laws.EncodedLength.Statement (.ldRA) := rfl
theorem Laws.EncodedLength.ldAI : Laws.EncodedLength.Statement (.ldAI) := rfl
theorem Laws.EncodedLength.ldAR : Laws.EncodedLength.Statement (.ldAR) := rfl
theorem Laws.EncodedLength.rrd : Laws.EncodedLength.Statement (.rrd) := rfl
theorem Laws.EncodedLength.rld : Laws.EncodedLength.Statement (.rld) := rfl
theorem Laws.EncodedLength.nopEd77 (q : Bool) : Laws.EncodedLength.Statement (.nopEd77 q) := rfl
theorem Laws.EncodedLength.ldi : Laws.EncodedLength.Statement (.ldi) := rfl
theorem Laws.EncodedLength.cpi : Laws.EncodedLength.Statement (.cpi) := rfl
theorem Laws.EncodedLength.ini : Laws.EncodedLength.Statement (.ini) := rfl
theorem Laws.EncodedLength.outi : Laws.EncodedLength.Statement (.outi) := rfl
theorem Laws.EncodedLength.ldd : Laws.EncodedLength.Statement (.ldd) := rfl
theorem Laws.EncodedLength.cpd : Laws.EncodedLength.Statement (.cpd) := rfl
theorem Laws.EncodedLength.ind : Laws.EncodedLength.Statement (.ind) := rfl
theorem Laws.EncodedLength.outd : Laws.EncodedLength.Statement (.outd) := rfl
theorem Laws.EncodedLength.ldir : Laws.EncodedLength.Statement (.ldir) := rfl
theorem Laws.EncodedLength.cpir : Laws.EncodedLength.Statement (.cpir) := rfl
theorem Laws.EncodedLength.inir : Laws.EncodedLength.Statement (.inir) := rfl
theorem Laws.EncodedLength.otir : Laws.EncodedLength.Statement (.otir) := rfl
theorem Laws.EncodedLength.lddr : Laws.EncodedLength.Statement (.lddr) := rfl
theorem Laws.EncodedLength.cpdr : Laws.EncodedLength.Statement (.cpdr) := rfl
theorem Laws.EncodedLength.indr : Laws.EncodedLength.Statement (.indr) := rfl
theorem Laws.EncodedLength.otdr : Laws.EncodedLength.Statement (.otdr) := rfl
theorem Laws.EncodedLength.nopEdX0 (y : Code3) (z : Code3) : Laws.EncodedLength.Statement (.nopEdX0 y z) := rfl
theorem Laws.EncodedLength.nopEdX3 (y : Code3) (z : Code3) : Laws.EncodedLength.Statement (.nopEdX3 y z) := rfl
theorem Laws.EncodedLength.nopEd80 (p : Code2) (z : Code3) : Laws.EncodedLength.Statement (.nopEd80 p z) := rfl
theorem Laws.EncodedLength.nopEdA4 (p : Code2) (w : Code2) : Laws.EncodedLength.Statement (.nopEdA4 p w) := rfl
theorem Laws.EncodedLength.addXyRr (xy : IndexReg) (pp : IndexPair) : Laws.EncodedLength.Statement (.addXyRr xy pp) := rfl
theorem Laws.EncodedLength.ldXyNn (xy : IndexReg) (nn : Word) : Laws.EncodedLength.Statement (.ldXyNn xy nn) := rfl
theorem Laws.EncodedLength.ldMNnXy (xy : IndexReg) (nn : Word) : Laws.EncodedLength.Statement (.ldMNnXy xy nn) := rfl
theorem Laws.EncodedLength.ldXyMNn (xy : IndexReg) (nn : Word) : Laws.EncodedLength.Statement (.ldXyMNn xy nn) := rfl
theorem Laws.EncodedLength.incXy (xy : IndexReg) : Laws.EncodedLength.Statement (.incXy xy) := rfl
theorem Laws.EncodedLength.decXy (xy : IndexReg) : Laws.EncodedLength.Statement (.decXy xy) := rfl
theorem Laws.EncodedLength.incMXyd (xy : IndexReg) (d : Byte) : Laws.EncodedLength.Statement (.incMXyd xy d) := rfl
theorem Laws.EncodedLength.decMXyd (xy : IndexReg) (d : Byte) : Laws.EncodedLength.Statement (.decMXyd xy d) := rfl
theorem Laws.EncodedLength.ldMXydN (xy : IndexReg) (d : Byte) (n : Byte) :
    Laws.EncodedLength.Statement (.ldMXydN xy d n) := rfl
theorem Laws.EncodedLength.ldRMXyd (r : Reg8) (xy : IndexReg) (d : Byte) :
    Laws.EncodedLength.Statement (.ldRMXyd r xy d) := rfl
theorem Laws.EncodedLength.ldMXydR (xy : IndexReg) (d : Byte) (r : Reg8) :
    Laws.EncodedLength.Statement (.ldMXydR xy d r) := rfl
theorem Laws.EncodedLength.addMXyd (xy : IndexReg) (d : Byte) : Laws.EncodedLength.Statement (.addMXyd xy d) := rfl
theorem Laws.EncodedLength.adcMXyd (xy : IndexReg) (d : Byte) : Laws.EncodedLength.Statement (.adcMXyd xy d) := rfl
theorem Laws.EncodedLength.subMXyd (xy : IndexReg) (d : Byte) : Laws.EncodedLength.Statement (.subMXyd xy d) := rfl
theorem Laws.EncodedLength.sbcMXyd (xy : IndexReg) (d : Byte) : Laws.EncodedLength.Statement (.sbcMXyd xy d) := rfl
theorem Laws.EncodedLength.andMXyd (xy : IndexReg) (d : Byte) : Laws.EncodedLength.Statement (.andMXyd xy d) := rfl
theorem Laws.EncodedLength.xorMXyd (xy : IndexReg) (d : Byte) : Laws.EncodedLength.Statement (.xorMXyd xy d) := rfl
theorem Laws.EncodedLength.orMXyd (xy : IndexReg) (d : Byte) : Laws.EncodedLength.Statement (.orMXyd xy d) := rfl
theorem Laws.EncodedLength.cpMXyd (xy : IndexReg) (d : Byte) : Laws.EncodedLength.Statement (.cpMXyd xy d) := rfl
theorem Laws.EncodedLength.popXy (xy : IndexReg) : Laws.EncodedLength.Statement (.popXy xy) := rfl
theorem Laws.EncodedLength.exMSpXy (xy : IndexReg) : Laws.EncodedLength.Statement (.exMSpXy xy) := rfl
theorem Laws.EncodedLength.pushXy (xy : IndexReg) : Laws.EncodedLength.Statement (.pushXy xy) := rfl
theorem Laws.EncodedLength.jpXy (xy : IndexReg) : Laws.EncodedLength.Statement (.jpXy xy) := rfl
theorem Laws.EncodedLength.ldSpXy (xy : IndexReg) : Laws.EncodedLength.Statement (.ldSpXy xy) := rfl
theorem Laws.EncodedLength.incXyh (xy : IndexReg) (h : Half) : Laws.EncodedLength.Statement (.incXyh xy h) := rfl
theorem Laws.EncodedLength.decXyh (xy : IndexReg) (h : Half) : Laws.EncodedLength.Statement (.decXyh xy h) := rfl
theorem Laws.EncodedLength.ldXyhN (xy : IndexReg) (h : Half) (n : Byte) :
    Laws.EncodedLength.Statement (.ldXyhN xy h n) := rfl
theorem Laws.EncodedLength.ldRRXyh (xy : IndexReg) (dst : HalfReg) (src : HalfReg) :
    Laws.EncodedLength.Statement (.ldRRXyh xy dst src) := rfl
theorem Laws.EncodedLength.addXyh (xy : IndexReg) (h : Half) : Laws.EncodedLength.Statement (.addXyh xy h) := rfl
theorem Laws.EncodedLength.adcXyh (xy : IndexReg) (h : Half) : Laws.EncodedLength.Statement (.adcXyh xy h) := rfl
theorem Laws.EncodedLength.subXyh (xy : IndexReg) (h : Half) : Laws.EncodedLength.Statement (.subXyh xy h) := rfl
theorem Laws.EncodedLength.sbcXyh (xy : IndexReg) (h : Half) : Laws.EncodedLength.Statement (.sbcXyh xy h) := rfl
theorem Laws.EncodedLength.andXyh (xy : IndexReg) (h : Half) : Laws.EncodedLength.Statement (.andXyh xy h) := rfl
theorem Laws.EncodedLength.xorXyh (xy : IndexReg) (h : Half) : Laws.EncodedLength.Statement (.xorXyh xy h) := rfl
theorem Laws.EncodedLength.orXyh (xy : IndexReg) (h : Half) : Laws.EncodedLength.Statement (.orXyh xy h) := rfl
theorem Laws.EncodedLength.cpXyh (xy : IndexReg) (h : Half) : Laws.EncodedLength.Statement (.cpXyh xy h) := rfl
theorem Laws.EncodedLength.ignoredIndexPrefix (xy : IndexReg) : Laws.EncodedLength.Statement (.ignoredIndexPrefix xy) := rfl
theorem Laws.EncodedLength.rlcMXyd (xy : IndexReg) (d : Byte) : Laws.EncodedLength.Statement (.rlcMXyd xy d) := rfl
theorem Laws.EncodedLength.rlcMXydR (xy : IndexReg) (d : Byte) (r : Reg8) :
    Laws.EncodedLength.Statement (.rlcMXydR xy d r) := rfl
theorem Laws.EncodedLength.rrcMXyd (xy : IndexReg) (d : Byte) : Laws.EncodedLength.Statement (.rrcMXyd xy d) := rfl
theorem Laws.EncodedLength.rrcMXydR (xy : IndexReg) (d : Byte) (r : Reg8) :
    Laws.EncodedLength.Statement (.rrcMXydR xy d r) := rfl
theorem Laws.EncodedLength.rlMXyd (xy : IndexReg) (d : Byte) : Laws.EncodedLength.Statement (.rlMXyd xy d) := rfl
theorem Laws.EncodedLength.rlMXydR (xy : IndexReg) (d : Byte) (r : Reg8) :
    Laws.EncodedLength.Statement (.rlMXydR xy d r) := rfl
theorem Laws.EncodedLength.rrMXyd (xy : IndexReg) (d : Byte) : Laws.EncodedLength.Statement (.rrMXyd xy d) := rfl
theorem Laws.EncodedLength.rrMXydR (xy : IndexReg) (d : Byte) (r : Reg8) :
    Laws.EncodedLength.Statement (.rrMXydR xy d r) := rfl
theorem Laws.EncodedLength.slaMXyd (xy : IndexReg) (d : Byte) : Laws.EncodedLength.Statement (.slaMXyd xy d) := rfl
theorem Laws.EncodedLength.slaMXydR (xy : IndexReg) (d : Byte) (r : Reg8) :
    Laws.EncodedLength.Statement (.slaMXydR xy d r) := rfl
theorem Laws.EncodedLength.sraMXyd (xy : IndexReg) (d : Byte) : Laws.EncodedLength.Statement (.sraMXyd xy d) := rfl
theorem Laws.EncodedLength.sraMXydR (xy : IndexReg) (d : Byte) (r : Reg8) :
    Laws.EncodedLength.Statement (.sraMXydR xy d r) := rfl
theorem Laws.EncodedLength.sllMXyd (xy : IndexReg) (d : Byte) : Laws.EncodedLength.Statement (.sllMXyd xy d) := rfl
theorem Laws.EncodedLength.sllMXydR (xy : IndexReg) (d : Byte) (r : Reg8) :
    Laws.EncodedLength.Statement (.sllMXydR xy d r) := rfl
theorem Laws.EncodedLength.srlMXyd (xy : IndexReg) (d : Byte) : Laws.EncodedLength.Statement (.srlMXyd xy d) := rfl
theorem Laws.EncodedLength.srlMXydR (xy : IndexReg) (d : Byte) (r : Reg8) :
    Laws.EncodedLength.Statement (.srlMXydR xy d r) := rfl
theorem Laws.EncodedLength.bitMXyd (xy : IndexReg) (d : Byte) (b : Code3) :
    Laws.EncodedLength.Statement (.bitMXyd xy d b) := rfl
theorem Laws.EncodedLength.bitMXydAlias (xy : IndexReg) (d : Byte) (b : Code3) (r : Reg8) :
    Laws.EncodedLength.Statement (.bitMXydAlias xy d b r) := rfl
theorem Laws.EncodedLength.resMXyd (xy : IndexReg) (d : Byte) (b : Code3) :
    Laws.EncodedLength.Statement (.resMXyd xy d b) := rfl
theorem Laws.EncodedLength.resMXydR (xy : IndexReg) (d : Byte) (b : Code3) (r : Reg8) :
    Laws.EncodedLength.Statement (.resMXydR xy d b r) := rfl
theorem Laws.EncodedLength.setMXyd (xy : IndexReg) (d : Byte) (b : Code3) :
    Laws.EncodedLength.Statement (.setMXyd xy d b) := rfl
theorem Laws.EncodedLength.setMXydR (xy : IndexReg) (d : Byte) (b : Code3) (r : Reg8) :
    Laws.EncodedLength.Statement (.setMXydR xy d b r) := rfl

end Sys2Proof
end

