-- ==== Sys2Proof/Tests/Slice0.lean ====
section
/-! SUPPORT. Tests: the well-formedness checks, one word of every row of the opcode table written out from its encoding, one-step
vectors of spec/95_test_vectors.md, and for each statement with hypotheses a witness that meets them. -/

namespace Sys2Proof.Tests

open Machine
open Claims

/-! ### Well-formedness: an ill-formed term for each check -/

theorem test_wf_halves_need_a_half : (Instr.ldRRXyh .ix .b .c).wf = false := by decide
theorem test_wf_neg_alias_is_not_neg : (Instr.negAlias .k0).wf = false := by decide
theorem test_wf_retn_alias_is_not_retn : (Instr.retnAlias .k0).wf = false := by decide
theorem test_wf_retn_alias_is_not_reti : (Instr.retnAlias .k1).wf = false := by decide
theorem test_wf_im_alias_is_not_im : (Instr.imAlias .k2).wf = false := by decide

/-! ### Decoding: every row of the opcode table, by a word written out bit by bit from its encoding -/

/-- Every word, with its number of bits, decodes to the instruction beside it. -/
def wordsRight (l : List (Nat × Nat × Instr)) : Bool := l.all fun p => decodeTableWord p.1 p.2.1 == some p.2.2

theorem test_words_general_and_wide : wordsRight
    [(8, 0b00000000, .nop), (8, 0b00001000, .exAfAf), (16, 0b00010000_01111110, .djnz 0x7E#8),
     (16, 0b00011000_10000101, .jr 0x85#8), (16, 0b00110000_01111110, .jrCc .nc 0x7E#8),
     (24, 0b00000001_11000011_10100101, .ldRrNn .bc 0xA5C3#16), (8, 0b00011001, .addHlRr .de),
     (8, 0b00000010, .ldMBcA), (8, 0b00010010, .ldMDeA), (24, 0b00100010_11000011_10100101, .ldMNnHl 0xA5C3#16),
     (24, 0b00110010_10110100_00011110, .ldMNnA 0x1EB4#16), (8, 0b00001010, .ldAMBc), (8, 0b00011010, .ldAMDe),
     (24, 0b00101010_11000011_10100101, .ldHlMNn 0xA5C3#16),
     (24, 0b00111010_10110100_00011110, .ldAMNn 0x1EB4#16), (8, 0b00100011, .incRr .hl),
     (8, 0b00111011, .decRr .sp)] = true := by decide

theorem test_words_inc_dec_rotate_load : wordsRight
    [(8, 0b00011100, .incR .e), (8, 0b00110100, .incMHl), (8, 0b00101101, .decR .l), (8, 0b00110101, .decMHl),
     (16, 0b00000110_00101101, .ldRN .b 0x2D#8), (16, 0b00110110_11010010, .ldMHlN 0xD2#8),
     (8, 0b00000111, .rlca), (8, 0b00001111, .rrca), (8, 0b00010111, .rla), (8, 0b00011111, .rra),
     (8, 0b00100111, .daa), (8, 0b00101111, .cpl), (8, 0b00110111, .scf), (8, 0b00111111, .ccf),
     (8, 0b01011001, .ldRR .e .c), (8, 0b01100110, .ldRMHl .h), (8, 0b01110101, .ldMHlR .l),
     (8, 0b01110110, .halt)] = true := by decide

theorem test_words_add_adc_sub_sbc : wordsRight
    [(8, 0b10000000, .addR .b), (8, 0b10000110, .addMHl), (16, 0b11000110_11010010, .addN 0xD2#8),
     (8, 0b10001011, .adcR .e), (8, 0b10001110, .adcMHl), (16, 0b11001110_11010010, .adcN 0xD2#8),
     (8, 0b10010111, .subR .a), (8, 0b10010110, .subMHl), (16, 0b11010110_11010010, .subN 0xD2#8),
     (8, 0b10011010, .sbcR .d), (8, 0b10011110, .sbcMHl), (16, 0b11011110_11010010, .sbcN 0xD2#8)] = true := by decide

theorem test_words_and_xor_or_cp : wordsRight
    [(8, 0b10100101, .andR .l), (8, 0b10100110, .andMHl), (16, 0b11100110_11010010, .andN 0xD2#8),
     (8, 0b10101001, .xorR .c), (8, 0b10101110, .xorMHl), (16, 0b11101110_11010010, .xorN 0xD2#8),
     (8, 0b10110100, .orR .h), (8, 0b10110110, .orMHl), (16, 0b11110110_11010010, .orN 0xD2#8),
     (8, 0b10111000, .cpR .b), (8, 0b10111110, .cpMHl), (16, 0b11111110_11010010, .cpN 0xD2#8)] = true := by decide

theorem test_words_stack_jump_call_port : wordsRight
    [(8, 0b11001000, .retCc .z), (8, 0b11010001, .popQq .de), (8, 0b11001001, .ret), (8, 0b11011001, .exx),
     (8, 0b11101001, .jpHl), (8, 0b11111001, .ldSpHl), (24, 0b11011010_11000011_10100101, .jpCc .c 0xA5C3#16),
     (24, 0b11000011_10110100_00011110, .jp 0x1EB4#16), (16, 0b11010011_11010010, .outNA 0xD2#8),
     (16, 0b11011011_11010010, .inAN 0xD2#8), (8, 0b11100011, .exMSpHl), (8, 0b11101011, .exDeHl),
     (8, 0b11110011, .di), (8, 0b11111011, .ei), (24, 0b11011100_11000011_10100101, .callCc .c 0xA5C3#16),
     (8, 0b11110101, .pushQq .af), (24, 0b11001101_11000011_10100101, .call 0xA5C3#16),
     (8, 0b11110111, .rst .k6)] = true := by decide

theorem test_words_cb_rotates : wordsRight
    [(16, 0b11001011_00000000, .rlcR .b), (16, 0b11001011_00000110, .rlcMHl),
     (16, 0b11001011_00001010, .rrcR .d), (16, 0b11001011_00001110, .rrcMHl), (16, 0b11001011_00010100, .rlR .h),
     (16, 0b11001011_00010110, .rlMHl), (16, 0b11001011_00011111, .rrR .a), (16, 0b11001011_00011110, .rrMHl),
     (16, 0b11001011_00100001, .slaR .c), (16, 0b11001011_00100110, .slaMHl),
     (16, 0b11001011_00101011, .sraR .e), (16, 0b11001011_00101110, .sraMHl),
     (16, 0b11001011_00110101, .sllR .l), (16, 0b11001011_00110110, .sllMHl),
     (16, 0b11001011_00111000, .srlR .b), (16, 0b11001011_00111110, .srlMHl)] = true := by decide

theorem test_words_cb_bits : wordsRight
    [(16, 0b11001011_01101010, .bitR .k5 .d), (16, 0b11001011_01110110, .bitMHl .k6),
     (16, 0b11001011_10111100, .resR .k7 .h), (16, 0b11001011_10000110, .resMHl .k0),
     (16, 0b11001011_11001111, .setR .k1 .a), (16, 0b11001011_11010110, .setMHl .k2)] = true := by decide

theorem test_words_ed_ports_and_words : wordsRight
    [(16, 0b11101101_01001000, .inRC .c), (16, 0b11101101_01110000, .inFC), (16, 0b11101101_01011001, .outCR .e),
     (16, 0b11101101_01110001, .outC0), (16, 0b11101101_01100010, .sbcHlRr .hl),
     (16, 0b11101101_01111010, .adcHlRr .sp),
     (32, 0b11101101_01000011_11000011_10100101, .ldMNnRr .bc 0xA5C3#16),
     (32, 0b11101101_01011011_10110100_00011110, .ldRrMNn .de 0x1EB4#16)] = true := by decide

theorem test_words_ed_general : wordsRight
    [(16, 0b11101101_01000100, .neg), (16, 0b11101101_01101100, .negAlias .k5), (16, 0b11101101_01000101, .retn),
     (16, 0b11101101_01001101, .reti), (16, 0b11101101_01101101, .retnAlias .k5),
     (16, 0b11101101_01000110, .im0), (16, 0b11101101_01010110, .im1), (16, 0b11101101_01011110, .im2),
     (16, 0b11101101_01101110, .imAlias .k5), (16, 0b11101101_01000111, .ldIA), (16, 0b11101101_01001111, .ldRA),
     (16, 0b11101101_01010111, .ldAI), (16, 0b11101101_01011111, .ldAR), (16, 0b11101101_01100111, .rrd),
     (16, 0b11101101_01101111, .rld), (16, 0b11101101_01111111, .nopEd77 true)] = true := by decide

theorem test_words_ed_block : wordsRight
    [(16, 0b11101101_10100000, .ldi), (16, 0b11101101_10100001, .cpi), (16, 0b11101101_10100010, .ini),
     (16, 0b11101101_10100011, .outi), (16, 0b11101101_10101000, .ldd), (16, 0b11101101_10101001, .cpd),
     (16, 0b11101101_10101010, .ind), (16, 0b11101101_10101011, .outd), (16, 0b11101101_10110000, .ldir),
     (16, 0b11101101_10110001, .cpir), (16, 0b11101101_10110010, .inir), (16, 0b11101101_10110011, .otir),
     (16, 0b11101101_10111000, .lddr), (16, 0b11101101_10111001, .cpdr), (16, 0b11101101_10111010, .indr),
     (16, 0b11101101_10111011, .otdr)] = true := by decide

theorem test_words_ed_no_operations : wordsRight
    [(16, 0b11101101_00101011, .nopEdX0 .k5 .k3), (16, 0b11101101_11101011, .nopEdX3 .k5 .k3),
     (16, 0b11101101_10010011, .nopEd80 .k2 .k3), (16, 0b11101101_10110101, .nopEdA4 .k2 .k1)] = true := by decide

theorem test_words_index_words_and_memory : wordsRight
    [(16, 0b11111101_00101001, .addXyRr .iy .xy),
     (32, 0b11011101_00100001_10110100_00011110, .ldXyNn .ix 0x1EB4#16),
     (32, 0b11111101_00100010_11000011_10100101, .ldMNnXy .iy 0xA5C3#16),
     (32, 0b11011101_00101010_10110100_00011110, .ldXyMNn .ix 0x1EB4#16), (16, 0b11111101_00100011, .incXy .iy),
     (16, 0b11011101_00101011, .decXy .ix), (24, 0b11111101_00110100_10000101, .incMXyd .iy 0x85#8),
     (24, 0b11011101_00110101_01111110, .decMXyd .ix 0x7E#8),
     (32, 0b11111101_00110110_10000101_11010010, .ldMXydN .iy 0x85#8 0xD2#8),
     (24, 0b11011101_01101110_01111110, .ldRMXyd .l .ix 0x7E#8),
     (24, 0b11111101_01110111_10000101, .ldMXydR .iy 0x85#8 .a)] = true := by decide

theorem test_words_index_alu : wordsRight
    [(24, 0b11011101_10000110_01111110, .addMXyd .ix 0x7E#8),
     (24, 0b11111101_10001110_10000101, .adcMXyd .iy 0x85#8),
     (24, 0b11011101_10010110_01111110, .subMXyd .ix 0x7E#8),
     (24, 0b11111101_10011110_10000101, .sbcMXyd .iy 0x85#8),
     (24, 0b11011101_10100110_01111110, .andMXyd .ix 0x7E#8),
     (24, 0b11111101_10101110_10000101, .xorMXyd .iy 0x85#8),
     (24, 0b11011101_10110110_01111110, .orMXyd .ix 0x7E#8),
     (24, 0b11111101_10111110_10000101, .cpMXyd .iy 0x85#8)] = true := by decide

theorem test_words_index_stack : wordsRight
    [(16, 0b11011101_11100001, .popXy .ix), (16, 0b11111101_11100011, .exMSpXy .iy),
     (16, 0b11011101_11100101, .pushXy .ix), (16, 0b11111101_11101001, .jpXy .iy),
     (16, 0b11011101_11111001, .ldSpXy .ix)] = true := by decide

theorem test_words_index_halves : wordsRight
    [(16, 0b11111101_00101100, .incXyh .iy .low), (16, 0b11011101_00100101, .decXyh .ix .high),
     (24, 0b11111101_00101110_11010010, .ldXyhN .iy .low 0xD2#8),
     (16, 0b11011101_01000101, .ldRRXyh .ix .b .xyl), (16, 0b11111101_10000101, .addXyh .iy .low),
     (16, 0b11011101_10001100, .adcXyh .ix .high), (16, 0b11111101_10010101, .subXyh .iy .low),
     (16, 0b11011101_10011100, .sbcXyh .ix .high), (16, 0b11111101_10100101, .andXyh .iy .low),
     (16, 0b11011101_10101100, .xorXyh .ix .high), (16, 0b11111101_10110101, .orXyh .iy .low),
     (16, 0b11011101_10111100, .cpXyh .ix .high), (8, 0b11111101, .ignoredIndexPrefix .iy)] = true := by decide

theorem test_words_index_rotates : wordsRight
    [(32, 0b11011101_11001011_01111110_00000110, .rlcMXyd .ix 0x7E#8),
     (32, 0b11111101_11001011_10000101_00000111, .rlcMXydR .iy 0x85#8 .a),
     (32, 0b11011101_11001011_01111110_00001110, .rrcMXyd .ix 0x7E#8),
     (32, 0b11111101_11001011_10000101_00001001, .rrcMXydR .iy 0x85#8 .c),
     (32, 0b11011101_11001011_01111110_00010110, .rlMXyd .ix 0x7E#8),
     (32, 0b11111101_11001011_10000101_00010011, .rlMXydR .iy 0x85#8 .e),
     (32, 0b11011101_11001011_01111110_00011110, .rrMXyd .ix 0x7E#8),
     (32, 0b11111101_11001011_10000101_00011101, .rrMXydR .iy 0x85#8 .l),
     (32, 0b11011101_11001011_01111110_00100110, .slaMXyd .ix 0x7E#8),
     (32, 0b11111101_11001011_10000101_00100000, .slaMXydR .iy 0x85#8 .b),
     (32, 0b11011101_11001011_01111110_00101110, .sraMXyd .ix 0x7E#8),
     (32, 0b11111101_11001011_10000101_00101010, .sraMXydR .iy 0x85#8 .d),
     (32, 0b11011101_11001011_01111110_00110110, .sllMXyd .ix 0x7E#8),
     (32, 0b11111101_11001011_10000101_00110100, .sllMXydR .iy 0x85#8 .h),
     (32, 0b11011101_11001011_01111110_00111110, .srlMXyd .ix 0x7E#8),
     (32, 0b11111101_11001011_10000101_00111111, .srlMXydR .iy 0x85#8 .a)] = true := by decide

theorem test_words_index_bits : wordsRight
    [(32, 0b11011101_11001011_01111110_01100110, .bitMXyd .ix 0x7E#8 .k4),
     (32, 0b11111101_11001011_10000101_01101001, .bitMXydAlias .iy 0x85#8 .k5 .c),
     (32, 0b11011101_11001011_01111110_10110110, .resMXyd .ix 0x7E#8 .k6),
     (32, 0b11111101_11001011_10000101_10111011, .resMXydR .iy 0x85#8 .k7 .e),
     (32, 0b11011101_11001011_01111110_11000110, .setMXyd .ix 0x7E#8 .k0),
     (32, 0b11111101_11001011_10000101_11001101, .setMXydR .iy 0x85#8 .k1 .l)] = true := by decide

/-- An index prefix before a byte that gives it a meaning is no instruction of its own (R104). -/
theorem test_prefix_with_meaning : decode [0xDD#8, 0x23#8, 0x00#8] = .instr (.incXy .ix) [0x00#8] := by decide

/-- Too few bytes are rejected by name. -/
theorem test_truncated : decode [0xDD#8, 0xCB#8, 0x05#8] = .truncated := by decide

/-! ### One-step vectors -/

/-- The next state, where there is one. -/
def after (s : State) : Option State :=
  match step s with
  | .next u => some u
  | .fault _ | .refused _ => none

/-- The step answers a next state of which `f` is `v`. -/
abbrev Gives {α : Type} (s : State) (f : State → α) (v : α) : Prop := (after s).map f = some v

/-- Registers zero but SP = 0x5000, PC = 0x0100, the bytes at PC; undocumented encodings execute. -/
def on (b0 b1 b2 b3 : Byte) (g : Regs) : State :=
  { State.reset with
    main := g
    sp := 0x5000#16
    pc := 0x0100#16
    params := { Config.Params.atReset with undocOps := .execute } }.withBytesAtPc b0 b1 b2 b3

/-- A and F. -/
def af (u : State) : Byte × Byte := (u.main.a, u.main.f)

/-- 95_test_vectors.md 2.1 vector 1. -/
theorem test_add_overflow :
    Gives (on 0x80#8 0x00#8 0x00#8 0x00#8 { Regs.zero with a := 0x7F#8, b := 0x01#8 })
      af (0x80#8, 0x94#8) := by decide

/-- 95_test_vectors.md 2.1 vector 2. -/
theorem test_add_carry :
    Gives (on 0x80#8 0x00#8 0x00#8 0x00#8 { Regs.zero with a := 0xFF#8, b := 0x01#8 })
      af (0x00#8, 0x51#8) := by decide

/-- 95_test_vectors.md 2.1 vector 6. -/
theorem test_adc_uses_carry :
    Gives (on 0x88#8 0x00#8 0x00#8 0x00#8 { Regs.zero with a := 0xFF#8, f := 0x01#8 })
      af (0x00#8, 0x51#8) := by decide

/-- 95_test_vectors.md 2.1 vector 7. -/
theorem test_sub_overflow :
    Gives (on 0x90#8 0x00#8 0x00#8 0x00#8 { Regs.zero with a := 0x80#8, b := 0x01#8 })
      af (0x7F#8, 0x3E#8) := by decide

/-- 95_test_vectors.md 2.1 vector 8, `XY_SUB` = operand. -/
theorem test_sub_operand_bits :
    Gives { on 0x90#8 0x00#8 0x00#8 0x00#8 { Regs.zero with b := 0x01#8 } with params := { Config.Params.atReset with xySub := .operand } }
      af (0xFF#8, 0x93#8) := by decide

/-- 95_test_vectors.md 2.1 vector 10. -/
theorem test_sbc_full_borrow :
    Gives (on 0x98#8 0x00#8 0x00#8 0x00#8 { Regs.zero with b := 0xFF#8, f := 0x01#8 })
      af (0x00#8, 0x53#8) := by decide

/-- 95_test_vectors.md 2.1 vector 12. -/
theorem test_and_sets_half :
    Gives (on 0xA0#8 0x00#8 0x00#8 0x00#8 { Regs.zero with a := 0xF0#8, b := 0x0F#8 })
      af (0x00#8, 0x54#8) := by decide

/-- 95_test_vectors.md 2.1 vector 15. -/
theorem test_xor_parity :
    Gives (on 0xA8#8 0x00#8 0x00#8 0x00#8 { Regs.zero with a := 0x01#8, b := 0x80#8, f := 0xFF#8 })
      af (0x81#8, 0x84#8) := by decide

/-- 95_test_vectors.md 2.1 vector 17. -/
theorem test_or_undocumented_bits :
    Gives (on 0xB0#8 0x00#8 0x00#8 0x00#8 { Regs.zero with a := 0x28#8, b := 0x01#8, f := 0xFF#8 })
      af (0x29#8, 0x28#8) := by decide

/-- 95_test_vectors.md 2.1 vector 19. -/
theorem test_cp_takes_bits_of_operand :
    Gives (on 0xB8#8 0x00#8 0x00#8 0x00#8 { Regs.zero with b := 0x28#8 })
      af (0x00#8, 0xBB#8) := by decide

/-- 95_test_vectors.md program P6, the second ADD. -/
theorem test_add_indexed :
    Gives { poke 0x4001#16 0x90#8 (on 0xDD#8 0x86#8 0x00#8 0x00#8 { Regs.zero with a := 0x80#8 }) with ix := 0x4001#16 }
      af (0x10#8, 0x05#8) := by decide

/-- 95_test_vectors.md 2.2 vector 2. -/
theorem test_inc_keeps_carry :
    Gives (on 0x04#8 0x00#8 0x00#8 0x00#8 { Regs.zero with b := 0x7F#8, f := 0x01#8 })
      (fun u => (u.main.b, u.main.f)) (0x80#8, 0x95#8) := by decide

/-- 95_test_vectors.md E6, the corrected one. -/
theorem test_dec_half_borrow :
    Gives (on 0x05#8 0x00#8 0x00#8 0x00#8 Regs.zero)
      (fun u => (u.main.b, u.main.f)) (0xFF#8, 0xBA#8) := by decide

/-- 95_test_vectors.md E3, on (HL). -/
theorem test_inc_memory :
    Gives (poke 0x4000#16 0x0F#8 (on 0x34#8 0x00#8 0x00#8 0x00#8 { Regs.zero with h := 0x40#8 }))
      (fun u => (peek u 0x4000#16, u.main.f)) (0x10#8, 0x10#8) := by decide

/-- 95_test_vectors.md 2.3 vector 1. -/
theorem test_daa_after_add :
    Gives (on 0x27#8 0x00#8 0x00#8 0x00#8 { Regs.zero with a := 0x3C#8, f := 0x28#8 })
      af (0x42#8, 0x14#8) := by decide

/-- 95_test_vectors.md 2.3 vector 5. -/
theorem test_daa_after_sub :
    Gives (on 0x27#8 0x00#8 0x00#8 0x00#8 { Regs.zero with a := 0x2D#8, f := 0x12#8 })
      af (0x27#8, 0x26#8) := by decide

/-- 95_test_vectors.md 2.4 vector 1. -/
theorem test_cpl :
    Gives (on 0x2F#8 0x00#8 0x00#8 0x00#8 Regs.zero)
      af (0xFF#8, 0x3A#8) := by decide

/-- 95_test_vectors.md 2.4 vector 2. -/
theorem test_neg_of_80 :
    Gives (on 0xED#8 0x44#8 0x00#8 0x00#8 { Regs.zero with a := 0x80#8 })
      af (0x80#8, 0x87#8) := by decide

/-- 95_test_vectors.md 2.4 vector 6. -/
theorem test_scf :
    Gives (on 0x37#8 0x00#8 0x00#8 0x00#8 { Regs.zero with f := 0xD6#8 })
      af (0x00#8, 0xC5#8) := by decide

/-- 95_test_vectors.md 2.4 vector 8. -/
theorem test_ccf_old_carry_to_half :
    Gives (on 0x3F#8 0x00#8 0x00#8 0x00#8 { Regs.zero with f := 0xC5#8 })
      af (0x00#8, 0xD4#8) := by decide

/-- 95_test_vectors.md 2.5 vector 1. -/
theorem test_rlca :
    Gives (on 0x07#8 0x00#8 0x00#8 0x00#8 { Regs.zero with a := 0x81#8, f := 0xC4#8 })
      af (0x03#8, 0xC5#8) := by decide

/-- 95_test_vectors.md 2.5 vector 2. -/
theorem test_rrca :
    Gives (on 0x0F#8 0x00#8 0x00#8 0x00#8 { Regs.zero with a := 0x01#8 })
      af (0x80#8, 0x01#8) := by decide

/-- 95_test_vectors.md 2.5 vector 3. -/
theorem test_rla :
    Gives (on 0x17#8 0x00#8 0x00#8 0x00#8 { Regs.zero with a := 0x80#8 })
      af (0x00#8, 0x01#8) := by decide

/-- 95_test_vectors.md 2.5 vector 6. -/
theorem test_rra :
    Gives (on 0x1F#8 0x00#8 0x00#8 0x00#8 { Regs.zero with f := 0x01#8 })
      af (0x80#8, 0x00#8) := by decide

/-- 95_test_vectors.md 2.5 vector 8. -/
theorem test_rlc :
    Gives (on 0xCB#8 0x00#8 0x00#8 0x00#8 { Regs.zero with b := 0xFF#8 })
      (fun u => (u.main.b, u.main.f)) (0xFF#8, 0xAD#8) := by decide

/-- 95_test_vectors.md 2.5 vector 9. -/
theorem test_rrc :
    Gives (on 0xCB#8 0x08#8 0x00#8 0x00#8 { Regs.zero with b := 0x80#8 })
      (fun u => (u.main.b, u.main.f)) (0x40#8, 0x00#8) := by decide

/-- 95_test_vectors.md 2.5 vector 10. -/
theorem test_rl :
    Gives (on 0xCB#8 0x10#8 0x00#8 0x00#8 { Regs.zero with b := 0x80#8, f := 0x01#8 })
      (fun u => (u.main.b, u.main.f)) (0x01#8, 0x01#8) := by decide

/-- 95_test_vectors.md 2.5 vector 11. -/
theorem test_rr :
    Gives (on 0xCB#8 0x18#8 0x00#8 0x00#8 { Regs.zero with f := 0x01#8 })
      (fun u => (u.main.b, u.main.f)) (0x80#8, 0x80#8) := by decide

/-- 95_test_vectors.md 2.5 vector 13. -/
theorem test_sla :
    Gives (on 0xCB#8 0x20#8 0x00#8 0x00#8 { Regs.zero with b := 0x41#8, f := 0x01#8 })
      (fun u => (u.main.b, u.main.f)) (0x82#8, 0x84#8) := by decide

/-- 95_test_vectors.md 2.5 vector 14. -/
theorem test_sra :
    Gives (on 0xCB#8 0x28#8 0x00#8 0x00#8 { Regs.zero with b := 0x80#8 })
      (fun u => (u.main.b, u.main.f)) (0xC0#8, 0x84#8) := by decide

/-- 95_test_vectors.md 2.5 vector 17. -/
theorem test_srl :
    Gives (on 0xCB#8 0x38#8 0x00#8 0x00#8 { Regs.zero with b := 0xFF#8 })
      (fun u => (u.main.b, u.main.f)) (0x7F#8, 0x29#8) := by decide

/-- 95_test_vectors.md 2.5 vector 18. -/
theorem test_sll :
    Gives (on 0xCB#8 0x30#8 0x00#8 0x00#8 Regs.zero)
      (fun u => (u.main.b, u.main.f)) (0x01#8, 0x00#8) := by decide

/-- 46_rotate_shift.md R274, R275: 0x81 rotates to 0x03, in memory and in the copy. -/
theorem test_rlc_indexed_copies :
    Gives { poke 0x3FFF#16 0x81#8 (on 0xFD#8 0xCB#8 0xFF#8 0x01#8 Regs.zero) with iy := 0x4000#16 }
      (fun u => (peek u 0x3FFF#16, u.main.c)) (0x03#8, 0x03#8) := by decide

/-- 46_rotate_shift.md R284, by hand. -/
theorem test_rld_digits :
    Gives (poke 0x4000#16 0x31#8 (on 0xED#8 0x6F#8 0x00#8 0x00#8 { Regs.zero with a := 0x7A#8, h := 0x40#8 }))
      (fun u => (u.main.a, peek u 0x4000#16)) (0x73#8, 0x1A#8) := by decide

/-- 46_rotate_shift.md R285, by hand. -/
theorem test_rrd_digits :
    Gives (poke 0x4000#16 0x31#8 (on 0xED#8 0x67#8 0x00#8 0x00#8 { Regs.zero with a := 0x7A#8, h := 0x40#8 }))
      (fun u => (u.main.a, peek u 0x4000#16)) (0x71#8, 0xA3#8) := by decide

/-- 95_test_vectors.md 2.6 vector 1. -/
theorem test_bit_sign :
    Gives (on 0xCB#8 0x78#8 0x00#8 0x00#8 { Regs.zero with b := 0x80#8 })
      (fun u => (u.main.b, u.main.f)) (0x80#8, 0x90#8) := by decide

/-- 95_test_vectors.md 2.6 vector 6. -/
theorem test_bit_takes_bits_of_register :
    Gives (on 0xCB#8 0x70#8 0x00#8 0x00#8 { Regs.zero with b := 0x28#8 })
      (fun u => (u.main.b, u.main.f)) (0x28#8, 0x7C#8) := by decide

/-- 47_bit.md R292: the address is 0x2800, the byte 0. -/
theorem test_bit_indexed_takes_bits_of_address :
    Gives { on 0xDD#8 0xCB#8 0x00#8 0x46#8 Regs.zero with ix := 0x2800#16 }
      (fun u => u.main.f) 0x7C#8 := by decide

/-- 47_bit.md R293, by hand. -/
theorem test_set_bit :
    Gives (on 0xCB#8 0xF8#8 0x00#8 0x00#8 { Regs.zero with b := 0x01#8, f := 0xFF#8 })
      (fun u => (u.main.b, u.main.f)) (0x81#8, 0xFF#8) := by decide

/-- 47_bit.md R298, by hand. -/
theorem test_res_indexed_copies :
    Gives { poke 0x4001#16 0xFF#8 (on 0xDD#8 0xCB#8 0x01#8 0x80#8 Regs.zero) with ix := 0x4000#16 }
      (fun u => (peek u 0x4001#16, u.main.b)) (0xFE#8, 0xFE#8) := by decide

/-- 95_test_vectors.md 2.7 vector 2. -/
theorem test_add16_keeps_flags :
    Gives (on 0x09#8 0x00#8 0x00#8 0x00#8 { Regs.zero with h := 0xFF#8, l := 0xFF#8, c := 0x01#8, f := 0xC4#8 })
      (fun u => (u.main.h, u.main.l, u.main.f)) (0x00#8, 0x00#8, 0xD5#8) := by decide

/-- 95_test_vectors.md 2.7 vector 4. -/
theorem test_adc16_overflow :
    Gives (on 0xED#8 0x4A#8 0x00#8 0x00#8 { Regs.zero with h := 0x7F#8, l := 0xFF#8, f := 0x01#8 })
      (fun u => (u.main.h, u.main.l, u.main.f)) (0x80#8, 0x00#8, 0x94#8) := by decide

/-- 95_test_vectors.md 2.7 vector 6. -/
theorem test_sbc16_overflow :
    Gives (on 0xED#8 0x42#8 0x00#8 0x00#8 { Regs.zero with h := 0x80#8, c := 0x01#8 })
      (fun u => (u.main.h, u.main.l, u.main.f)) (0x7F#8, 0xFF#8, 0x3E#8) := by decide

/-- 95_test_vectors.md 2.7 vector 8. -/
theorem test_sbc16_borrow :
    Gives (on 0xED#8 0x42#8 0x00#8 0x00#8 { Regs.zero with f := 0x01#8 })
      (fun u => (u.main.h, u.main.l, u.main.f)) (0xFF#8, 0xFF#8, 0xBB#8) := by decide

/-- 95_test_vectors.md 2.8 vector 1. -/
theorem test_ld_register :
    Gives (on 0x41#8 0x00#8 0x00#8 0x00#8 { Regs.zero with c := 0x5A#8, f := 0xFF#8 })
      (fun u => (u.main.b, u.main.f)) (0x5A#8, 0xFF#8) := by decide

/-- 95_test_vectors.md 2.8 vector 3. -/
theorem test_ld_indexed_negative :
    Gives { poke 0x3FFF#16 0x77#8 (on 0xDD#8 0x46#8 0xFF#8 0x00#8 Regs.zero) with ix := 0x4000#16 }
      (fun u => (u.main.b, u.pc, u.cycles, u.r)) (0x77#8, 0x0103#16, 19, 2#8) := by decide

/-- 95_test_vectors.md 2.8 vector 4. -/
theorem test_store_indexed_wraps :
    Gives { on 0xFD#8 0x36#8 0x7F#8 0x11#8 Regs.zero with iy := 0xFFF0#16 }
      (fun u => peek u 0x006F#16) 0x11#8 := by decide

/-- 95_test_vectors.md 2.8 vector 5. -/
theorem test_ld_a_i_takes_iff2 :
    Gives { on 0xED#8 0x57#8 0x00#8 0x00#8 { Regs.zero with f := 0x01#8 } with iff2 := true }
      af (0x00#8, 0x45#8) := by decide

/-- 95_test_vectors.md 2.8 vector 7. -/
theorem test_ld_a_r_after_fetches :
    Gives { on 0xED#8 0x5F#8 0x00#8 0x00#8 Regs.zero with r := 0xFF#8, iff2 := true }
      (fun u => (u.main.a, u.main.f, u.r)) (0x81#8, 0x84#8, 0x81#8) := by decide

/-- 95_test_vectors.md 2.8 vector 8. -/
theorem test_ld_r_a :
    Gives (on 0xED#8 0x4F#8 0x00#8 0x00#8 { Regs.zero with a := 0x7F#8 })
      (fun u => u.r) 0x7F#8 := by decide

/-- 95_test_vectors.md 2.8 vector 8, the NOP. -/
theorem test_refresh_wraps_seven_bits :
    Gives { on 0x00#8 0x00#8 0x00#8 0x00#8 Regs.zero with r := 0x7F#8 }
      (fun u => u.r) 0x00#8 := by decide

/-- 95_test_vectors.md 2.9 vector 1. -/
theorem test_store_word_wraps :
    Gives (on 0x22#8 0xFF#8 0xFF#8 0x00#8 { Regs.zero with h := 0x12#8, l := 0x34#8 })
      (fun u => (peek u 0xFFFF#16, peek u 0#16)) (0x34#8, 0x12#8) := by decide

/-- 95_test_vectors.md 2.9 vector 2. -/
theorem test_load_word :
    Gives (poke 0x4001#16 0xAB#8 (poke 0x4000#16 0xCD#8 (on 0x2A#8 0x00#8 0x40#8 0x00#8 Regs.zero)))
      (fun u => (u.main.h, u.main.l)) (0xAB#8, 0xCD#8) := by decide

/-- 95_test_vectors.md 2.9 vector 3. -/
theorem test_push_wraps :
    Gives { on 0xC5#8 0x00#8 0x00#8 0x00#8 { Regs.zero with b := 0x12#8, c := 0x34#8 } with sp := 1#16 }
      (fun u => (peek u 0#16, peek u 0xFFFF#16, u.sp)) (0x12#8, 0x34#8, 0xFFFF#16) := by decide

/-- 95_test_vectors.md 2.9 vector 4. -/
theorem test_pop_af :
    Gives { poke 0x0000#16 0x01#8 (poke 0xFFFF#16 0xD7#8 (on 0xF1#8 0x00#8 0x00#8 0x00#8 Regs.zero)) with sp := 0xFFFF#16 }
      (fun u => (u.main.a, u.main.f, u.sp)) (0x01#8, 0xD7#8, 0x0001#16) := by decide

/-- 95_test_vectors.md 2.10 vector 1. -/
theorem test_ex_af :
    Gives { on 0x08#8 0x00#8 0x00#8 0x00#8 { Regs.zero with a := 0x12#8, f := 0x34#8 } with alt := { Regs.zero with a := 0x56#8, f := 0x78#8 } }
      (fun u => (u.main.af, u.alt.af)) (0x5678#16, 0x1234#16) := by decide

/-- 95_test_vectors.md 2.10 vector 2. -/
theorem test_exx :
    Gives { on 0xD9#8 0x00#8 0x00#8 0x00#8 { Regs.zero with a := 0xAA#8, f := 0xAA#8, c := 0x01#8, e := 0x02#8, l := 0x03#8 } with alt := { Regs.zero with c := 4#8, e := 5#8, l := 6#8 } }
      (fun u => (u.main, u.alt)) (⟨0xAA#8, 0xAA#8, 0#8, 4#8, 0#8, 5#8, 0#8, 6#8⟩, ⟨0#8, 0#8, 0#8, 1#8, 0#8, 2#8, 0#8, 3#8⟩) := by decide

/-- 95_test_vectors.md 2.10 vector 3. -/
theorem test_ex_sp_hl_wraps :
    Gives { poke 0x0000#16 0x22#8 (poke 0xFFFF#16 0x11#8 (on 0xE3#8 0x00#8 0x00#8 0x00#8 { Regs.zero with h := 0x33#8, l := 0x44#8 })) with sp := 0xFFFF#16 }
      (fun u => (u.main.hl, peek u 0xFFFF#16, peek u 0#16)) (0x2211#16, 0x44#8, 0x33#8) := by decide

/-- 95_test_vectors.md 2.10 vector 4, step 1. -/
theorem test_ignored_prefix :
    Gives (on 0xDD#8 0xEB#8 0x00#8 0x00#8 { Regs.zero with d := 0x11#8, h := 0x22#8 })
      (fun u => (u.main.hl, u.pc, u.cycles, u.r, u.afterPrefix)) (0x2200#16, 0x0101#16, 4, 1#8, true) := by decide

/-- 95_test_vectors.md 2.11 vector 1. -/
theorem test_ldi :
    Gives (poke 0x4000#16 0x01#8 (on 0xED#8 0xA0#8 0x00#8 0x00#8 { Regs.zero with a := 0x01#8, f := 0xC1#8, d := 0x50#8, h := 0x40#8 }))
      (fun u => (peek u 0x5000#16, u.main)) (0x01#8, ⟨0x01#8, 0xE5#8, 0xFF#8, 0xFF#8, 0x50#8, 0x01#8, 0x40#8, 0x01#8⟩) := by decide

/-- 95_test_vectors.md 2.11 vector 3. -/
theorem test_cpi :
    Gives (poke 0x4000#16 0x01#8 (on 0xED#8 0xA1#8 0x00#8 0x00#8 { Regs.zero with a := 0x10#8, f := 0x01#8, c := 0x01#8, h := 0x40#8 }))
      (fun u => (u.main.af, u.main.bc, u.main.hl)) (0x103B#16, 0x0000#16, 0x4001#16) := by decide

/-- 95_test_vectors.md 2.11 vector 4. -/
theorem test_cpir_repeats :
    Gives (poke 0x4000#16 0x10#8 (on 0xED#8 0xB1#8 0x00#8 0x00#8 { Regs.zero with a := 0x20#8, c := 0x03#8, h := 0x40#8 }))
      (fun u => (u.pc, u.main.f, u.cycles, u.main.bc)) (0x0100#16, 0x06#8, 21, 0x0002#16) := by decide

/-- 42_exchange_block.md R195, R198: the last iteration. -/
theorem test_ldir_ends :
    Gives (on 0xED#8 0xB0#8 0x00#8 0x00#8 { Regs.zero with d := 0x50#8, h := 0x40#8, c := 0x01#8 })
      (fun u => (u.pc, u.cycles, u.main.bc)) (0x0102#16, 16, 0x0000#16) := by decide

/-- 95_test_vectors.md 2.12 vector 1. -/
theorem test_in_a_n :
    Gives { on 0xDB#8 0xFE#8 0x00#8 0x00#8 { Regs.zero with a := 0x7F#8 } with hostReplies := [0xBF#8] }
      (fun u => (u.main.a, u.main.f, u.calls.getLast?)) (0xBF#8, 0x00#8, some (.portRead 0x7FFE#16 0xBF#8)) := by decide

/-- 95_test_vectors.md 2.12 vector 2. -/
theorem test_in_a_c :
    Gives { on 0xED#8 0x78#8 0x00#8 0x00#8 { Regs.zero with b := 0x12#8, c := 0x34#8, f := 0x01#8 } with hostReplies := [0x80#8] }
      af (0x80#8, 0x81#8) := by decide

/-- 95_test_vectors.md 2.12 vector 5. -/
theorem test_out_c_h :
    Gives (on 0xED#8 0x61#8 0x00#8 0x00#8 { Regs.zero with c := 0xFE#8, h := 0x55#8 })
      (fun u => u.calls.getLast?) (some (.portWrite 0x00FE#16 0x55#8)) := by decide

/-- 95_test_vectors.md 2.12 vector 8, `OUT_C_ZERO` = 0x00. -/
theorem test_out_c_zero :
    Gives (on 0xED#8 0x71#8 0x00#8 0x00#8 { Regs.zero with c := 0x10#8 })
      (fun u => u.calls.getLast?) (some (.portWrite 0x0010#16 0x00#8)) := by decide

/-- 95_test_vectors.md 2.12 vector 6. -/
theorem test_ini :
    Gives { on 0xED#8 0xA2#8 0x00#8 0x00#8 { Regs.zero with b := 0x01#8, h := 0x40#8, f := 0x01#8 } with hostReplies := [0x80#8] }
      (fun u => (peek u 0x4000#16, u.main.b, u.main.f, u.main.hl)) (0x80#8, 0x00#8, 0x42#8, 0x4001#16) := by decide

/-- 95_test_vectors.md 2.12 vector 7. -/
theorem test_outi :
    Gives (poke 0x4000#16 0xFF#8 (on 0xED#8 0xA3#8 0x00#8 0x00#8 { Regs.zero with b := 0x01#8, c := 0x10#8, h := 0x40#8 }))
      (fun u => (u.main.f, u.main.b, u.calls.getLast?)) (0x57#8, 0x00#8, some (.portWrite 0x0010#16 0xFF#8)) := by decide

/-- 95_test_vectors.md 2.13 vector 2. -/
theorem test_jr_to_itself :
    Gives (on 0x18#8 0xFE#8 0x00#8 0x00#8 Regs.zero)
      (fun u => (u.pc, u.cycles)) (0x0100#16, 12) := by decide

/-- 95_test_vectors.md 2.13 vector 3. -/
theorem test_jr_cc_not_taken :
    Gives (on 0x28#8 0x10#8 0x00#8 0x00#8 Regs.zero)
      (fun u => (u.pc, u.cycles)) (0x0102#16, 7) := by decide

/-- 95_test_vectors.md 2.13 vector 4. -/
theorem test_djnz_wraps_and_jumps :
    Gives (on 0x10#8 0xFE#8 0x00#8 0x00#8 Regs.zero)
      (fun u => (u.main.b, u.pc, u.cycles)) (0xFF#8, 0x0100#16, 13) := by decide

/-- 95_test_vectors.md 2.13 vector 5. -/
theorem test_djnz_ends :
    Gives (on 0x10#8 0xFE#8 0x00#8 0x00#8 { Regs.zero with b := 0x01#8 })
      (fun u => (u.main.b, u.pc, u.cycles)) (0x00#8, 0x0102#16, 8) := by decide

/-- 95_test_vectors.md 2.13 vector 6. -/
theorem test_jp_pe :
    Gives (on 0xEA#8 0x00#8 0x30#8 0x00#8 { Regs.zero with f := 0x04#8 })
      (fun u => (u.pc, u.cycles)) (0x3000#16, 10) := by decide

/-- 95_test_vectors.md 2.13 vector 8. -/
theorem test_call_not_taken :
    Gives (on 0xD4#8 0x00#8 0x20#8 0x00#8 { Regs.zero with f := 0x01#8 })
      (fun u => (u.pc, u.sp, u.cycles)) (0x0103#16, 0x5000#16, 10) := by decide

/-- 95_test_vectors.md E10. -/
theorem test_call :
    Gives (on 0xCD#8 0x00#8 0x20#8 0x00#8 Regs.zero)
      (fun u => (u.pc, u.sp, peek u 0x4FFE#16, peek u 0x4FFF#16)) (0x2000#16, 0x4FFE#16, 0x03#8, 0x01#8) := by decide

/-- 95_test_vectors.md 2.13 vector 9. -/
theorem test_ret_not_taken :
    Gives (on 0xC0#8 0x00#8 0x00#8 0x00#8 { Regs.zero with f := 0x40#8 })
      (fun u => (u.pc, u.sp, u.cycles)) (0x0101#16, 0x5000#16, 5) := by decide

/-- 95_test_vectors.md 2.13 vector 10, at 0x0100. -/
theorem test_rst_38 :
    Gives (on 0xFF#8 0x00#8 0x00#8 0x00#8 Regs.zero)
      (fun u => (u.pc, peek u 0x4FFF#16, peek u 0x4FFE#16)) (0x0038#16, 0x01#8, 0x01#8) := by decide

/-- 95_test_vectors.md 2.13 vector 11. -/
theorem test_jp_hl_reads_no_memory :
    Gives (on 0xE9#8 0x00#8 0x00#8 0x00#8 { Regs.zero with h := 0x40#8 })
      (fun u => (u.pc, u.calls)) (0x4000#16, [.memRead 0x0100#16 0xE9#8]) := by decide

/-- 95_test_vectors.md 2.13 vector 12. -/
theorem test_retn_restores_iff1 :
    Gives { poke 0x4FFF#16 0x20#8 (on 0xED#8 0x45#8 0x00#8 0x00#8 Regs.zero) with sp := 0x4FFE#16, iff2 := true }
      (fun u => (u.pc, u.sp, u.iff1, u.cycles)) (0x2000#16, 0x5000#16, true, 14) := by decide

/-- 95_test_vectors.md 2.14 vector 1. -/
theorem test_halt :
    Gives (on 0x76#8 0x00#8 0x00#8 0x00#8 Regs.zero)
      (fun u => (u.pc, u.halted, u.status, u.cycles, u.r)) (0x0101#16, true, .halted, 4, 1#8) := by decide

/-- 95_test_vectors.md 2.14 vector 4. -/
theorem test_ei :
    Gives (on 0xFB#8 0x00#8 0x00#8 0x00#8 Regs.zero)
      (fun u => (u.iff1, u.iff2, u.eiInhibit)) (true, true, true) := by decide

/-- 95_test_vectors.md 2.14 vector 5. -/
theorem test_im_2 :
    Gives (on 0xED#8 0x5E#8 0x00#8 0x00#8 Regs.zero)
      (fun u => (u.im, u.cycles, u.r)) (.im2, 8, 2#8) := by decide

/-- 95_test_vectors.md 2.14 vector 6, `UNDOC_OPS` = execute. -/
theorem test_ed_00_executes :
    Gives (on 0xED#8 0x00#8 0x00#8 0x00#8 Regs.zero)
      (fun u => (u.pc, u.r, u.cycles)) (0x0102#16, 2#8, 8) := by decide

/-- 95_test_vectors.md 2.14 vector 6, `UNDOC_OPS` = fault. -/
theorem test_ed_00_faults :
    Gives { on 0xED#8 0x00#8 0x00#8 0x00#8 Regs.zero with params := Config.Params.atReset }
      (fun u => (u.fault, u.pc, u.r, u.cycles, u.status)) (some (.decodeError 0x0100#16 [0xED#8, 0x00#8]), 0x0100#16, 0#8, 0, .fault) := by decide

/-- 30_encoding.md R106 and 92_eei_decisions.md D16 (log 11). -/
theorem test_decode_error_three_bytes :
    Gives { on 0xDD#8 0x26#8 0x7B#8 0x00#8 Regs.zero with params := Config.Params.atReset }
      (fun u => (u.fault, u.calls.length)) (some (.decodeError 0x0100#16 [0xDD#8, 0x26#8, 0x7B#8]), 3) := by decide

/-- 95_test_vectors.md S9 step 5, `UNDOC_OPS` = execute. -/
theorem test_inc_index_half :
    Gives (on 0xDD#8 0x2C#8 0x00#8 0x00#8 { Regs.zero with a := 0x11#8, f := 0x01#8 })
      (fun u => (u.ix, u.main.f, u.pc, u.r)) (0x0001#16, 0x01#8, 0x0102#16, 2#8) := by decide

/-- 95_test_vectors.md S1 step 1. -/
theorem test_nmi_before_maskable :
    Gives { on 0x00#8 0x00#8 0x00#8 0x00#8 Regs.zero with im := .im1, iff1 := true, iff2 := true, intLine := true, nmiPending := true }
      (fun u => (u.pc, u.iff1, u.iff2, u.nmiPending, u.cycles, u.r)) (0x0066#16, false, true, false, 11, 1#8) := by decide

/-- 95_test_vectors.md S2 step 2. -/
theorem test_ei_inhibit_blocks :
    Gives { on 0xED#8 0x57#8 0x00#8 0x00#8 Regs.zero with im := .im1, iff1 := true, iff2 := true, intLine := true, eiInhibit := true }
      (fun u => (u.main.f, u.pc, u.eiInhibit)) (0x44#8, 0x0102#16, false) := by decide

/-- 95_test_vectors.md S4 step 2. -/
theorem test_after_prefix_blocks :
    Gives { on 0x00#8 0x00#8 0x00#8 0x00#8 Regs.zero with im := .im1, iff1 := true, iff2 := true, intLine := true, afterPrefix := true }
      (fun u => (u.pc, u.afterPrefix, u.cycles)) (0x0101#16, false, 4) := by decide

/-- 95_test_vectors.md S4 step 3, at 0x0100. -/
theorem test_mode_1 :
    Gives { on 0x00#8 0x00#8 0x00#8 0x00#8 Regs.zero with im := .im1, iff1 := true, iff2 := true, intLine := true }
      (fun u => (u.pc, peek u 0x4FFE#16, peek u 0x4FFF#16, u.cycles, u.iff1, u.iff2)) (0x0038#16, 0x00#8, 0x01#8, 13, false, false) := by decide

/-- 95_test_vectors.md S5 step 2. -/
theorem test_idle :
    Gives { on 0x3C#8 0x00#8 0x00#8 0x00#8 Regs.zero with halted := true }
      (fun u => (u.pc, u.halted, u.status, u.r, u.cycles, u.main.a)) (0x0100#16, true, .halted, 1#8, 4, 0#8) := by decide

/-- 95_test_vectors.md S5 step 3. -/
theorem test_nmi_wakes_halt :
    Gives { on 0x3C#8 0x00#8 0x00#8 0x00#8 Regs.zero with halted := true, nmiPending := true }
      (fun u => (u.halted, u.pc, u.status, peek u 0x4FFF#16)) (false, 0x0066#16, .normal, 0x01#8) := by decide

/-- 95_test_vectors.md S7. -/
theorem test_mode_0_other_byte :
    Gives { on 0x00#8 0x00#8 0x00#8 0x00#8 Regs.zero with iff1 := true, iff2 := true, intLine := true }
      (fun u => (u.fault, u.pc, u.sp, u.iff1, u.cycles, u.status)) (some (.im0DataError 0x0100#16 0#8), 0x0100#16, 0x5000#16, true, 0, .fault) := by decide

/-- 95_test_vectors.md S7 with 0xFF. -/
theorem test_mode_0_rst :
    Gives { on 0x00#8 0x00#8 0x00#8 0x00#8 Regs.zero with iff1 := true, iff2 := true, intLine := true, intData := 0xFF#8 }
      (fun u => (u.pc, u.cycles, u.iff1, u.fault)) (0x0038#16, 13, false, none) := by decide

/-- 95_test_vectors.md S8 with the entry across the wrap. -/
theorem test_mode_2_wraps :
    Gives { poke 0x0000#16 0x12#8 (poke 0xFFFF#16 0x34#8 (on 0x00#8 0x00#8 0x00#8 0x00#8 Regs.zero)) with im := .im2, i := 0xFF#8, intData := 0xFF#8, iff1 := true, iff2 := true, intLine := true }
      (fun u => (u.pc, u.cycles, peek u 0x4FFF#16)) (0x1234#16, 19, 0x01#8) := by decide

/-- 20_memory.md R61, with a ROM region over 0x2000 (log 10). -/
theorem test_rom_discards_writes :
    Gives { on 0x32#8 0x00#8 0x20#8 0x00#8 { Regs.zero with a := 0x55#8 } with params := { Config.Params.atReset with mapper := [.rom 0x2000 16] } }
      (fun u => (peek u 0x2000#16, u.calls.getLast?)) (0x00#8, some (.memWrite 0x2000#16 0x55#8)) := by decide

/-- 20_memory.md R61, with a host region over 0x2000 (log 10). -/
theorem test_device_answers_reads :
    Gives { on 0x3A#8 0x00#8 0x20#8 0x00#8 Regs.zero with params := { Config.Params.atReset with mapper := [.device 0x2000 16] }, hostReplies := [0x99#8] }
      (fun u => (u.main.a, u.hostReplies)) (0x99#8, []) := by decide

/-- 20_memory.md R61, with 0x2000 to 0x200F a mirror of 0x0100 to 0x010F (log 10). -/
theorem test_mirror_shares_its_cells :
    Gives { on 0x32#8 0x05#8 0x20#8 0x00#8 { Regs.zero with a := 0x55#8 } with params := { Config.Params.atReset with mapper := [.mirror 0x2000 16 0x0100] } }
      (fun u => (peek u 0x0105#16, arrayByte u 0x2005#16, peek u 0x2005#16)) (0x55#8, 0x55#8, 0x00#8) := by decide

/-- 95_test_vectors.md S10. -/
theorem test_reset_of_a_faulted_state :
    (fun u : State => (u.pc, u.fault, u.status, u.sp, u.main.af, u.intLine)) (hostReset
      { State.reset with
        pc := 5#16, fault := some (.im0DataError 5#16 0#8), status := .fault, sp := 1#16, intLine := true,
        params := { Config.Params.atReset with resetRegs := .fixed } }) =
      (0#16, none, .normal, 0xFFFF#16, 0xFFFF#16, true) := by decide

/-- The word of `LD A,n` placed by `withFetchWord` is the very next instruction, from reset (log 13). -/
theorem test_with_fetch_word : Gives (State.reset.withFetchWord 16 0x3E7B) (fun u => (u.main.a, u.pc)) (0x7B#8, 2#16) := by
  decide

/-- An undocumented row placed by `withFetchWord` runs (log 13). -/
theorem test_with_fetch_word_undocumented :
    Gives (State.reset.withFetchWord 16 0xCB30) (fun u => (u.main.b, u.fault)) (0x01#8, none) := by
  decide

/-! ### Witnesses: the hypotheses of each statement met together -/

/-- An asserted request with interrupts enabled. -/
def requested (m : IntMode) (byte : Byte) : State :=
  { on 0x00#8 0x00#8 0x00#8 0x00#8 Regs.zero with
    im := m, iff1 := true, iff2 := true, intLine := true, intData := byte }

theorem plainFetch_of_no_mapper (s : State) (h : s.params.mapper = []) : PlainFetch s := by
  intro k _
  rw [h]
  nofun

theorem witness_DecodeInvertsEncode :
    (Instr.setMXydR .iy 0x80#8 .k7 .a).wf = true ∧ (∀ xy, Instr.setMXydR .iy 0x80#8 .k7 .a ≠ .ignoredIndexPrefix xy) :=
  ⟨by decide, nofun⟩

/-- The following bytes of the second clause: the prefixes, and an opcode that names neither H, L, HL nor (HL). -/
theorem witness_DecodeInvertsEncode_ignored_prefix :
    ∀ b, b ∈ [0xDD#8, 0xED#8, 0xFD#8, 0x00#8, 0x40#8, 0x76#8, 0xEB#8, 0xFF#8] → hasIndexMeaning b = false := by
  decide

theorem witness_StepRunsDecodedInstruction :
    ∃ s i, AtBoundary s ∧ NoAcceptance s ∧ s.halted = false ∧ PlainFetch s ∧ instrAt s = i ∧ hasHandler i s = true ∧
      hasHandler (fetch (passBoundary s)).instr s = true :=
  ⟨on 0x3E#8 0x7B#8 0x00#8 0x00#8 Regs.zero, .ldRN .a 0x7B#8, ⟨rfl, rfl⟩, ⟨by decide, by decide⟩, rfl,
    plainFetch_of_no_mapper _ rfl, by decide, by decide, by decide⟩

/-- The first clause where the mapper hands the opcode byte to the host. -/
theorem witness_StepRunsDecodedInstruction_device :
    ∃ s, AtBoundary s ∧ NoAcceptance s ∧ s.halted = false ∧ ¬ PlainFetch s ∧ (fetch (passBoundary s)).instr = .ldRR .b .c ∧
      hasHandler (fetch (passBoundary s)).instr s = true :=
  ⟨{ State.reset with
      params := { Config.Params.atReset with mapper := [.device 0 1] }, hostReplies := [0x41#8] },
    ⟨rfl, rfl⟩, ⟨by decide, by decide⟩, rfl, fun h => h 0 (by decide) (by decide), by decide, by decide⟩

theorem witness_DecodeErrorChangesOnlyFault :
    ∃ s, AtBoundary s ∧ NoAcceptance s ∧ s.halted = false ∧ PlainFetch s ∧ hasHandler (instrAt s) s = false ∧
      byteAt s 0 = 0xDD#8 ∧ byteAt s 1 = 0xCB#8 ∧ hasHandler (fetch (passBoundary s)).instr s = false :=
  ⟨{ on 0xDD#8 0xCB#8 0x05#8 0x00#8 Regs.zero with params := Config.Params.atReset }, ⟨rfl, rfl⟩, ⟨by decide, by decide⟩,
    rfl, plainFetch_of_no_mapper _ rfl, by decide, by decide, by decide, by decide⟩

/-- The same for a three-byte report. -/
theorem witness_DecodeErrorChangesOnlyFault_three_bytes :
    ∃ s, AtBoundary s ∧ NoAcceptance s ∧ s.halted = false ∧ PlainFetch s ∧ hasHandler (instrAt s) s = false ∧
      byteAt s 0 = 0xFD#8 ∧ byteAt s 1 = 0x2E#8 :=
  ⟨{ on 0xFD#8 0x2E#8 0x05#8 0x00#8 Regs.zero with params := Config.Params.atReset }, ⟨rfl, rfl⟩, ⟨by decide, by decide⟩,
    rfl, plainFetch_of_no_mapper _ rfl, by decide, by decide, by decide⟩

/-- The same for a two-byte report of an index form. -/
theorem witness_DecodeErrorChangesOnlyFault_two_bytes :
    ∃ s, AtBoundary s ∧ NoAcceptance s ∧ s.halted = false ∧ PlainFetch s ∧ hasHandler (instrAt s) s = false ∧
      byteAt s 0 = 0xFD#8 ∧ byteAt s 1 = 0x2D#8 :=
  ⟨{ on 0xFD#8 0x2D#8 0x05#8 0x00#8 Regs.zero with params := Config.Params.atReset }, ⟨rfl, rfl⟩, ⟨by decide, by decide⟩,
    rfl, plainFetch_of_no_mapper _ rfl, by decide, by decide, by decide⟩

/-- The same for an ED form with the second byte of a three-byte one. -/
theorem witness_DecodeErrorChangesOnlyFault_ed :
    ∃ s, AtBoundary s ∧ NoAcceptance s ∧ s.halted = false ∧ PlainFetch s ∧ hasHandler (instrAt s) s = false ∧
      byteAt s 0 = 0xED#8 ∧ byteAt s 1 = 0x26#8 :=
  ⟨{ on 0xED#8 0x26#8 0x05#8 0x00#8 Regs.zero with params := Config.Params.atReset }, ⟨rfl, rfl⟩, ⟨by decide, by decide⟩,
    rfl, plainFetch_of_no_mapper _ rfl, by decide, by decide, by decide⟩

theorem witness_NmiAcceptance :
    ∃ s, AtBoundary s ∧ s.afterPrefix = false ∧ s.nmiPending = true ∧ s.sp = 1#16 ∧ s.halted = true :=
  ⟨{ on 0x00#8 0x00#8 0x00#8 0x00#8 Regs.zero with nmiPending := true, sp := 1#16, halted := true },
    ⟨rfl, rfl⟩, rfl, rfl, rfl, rfl⟩

/-- Mode 0, the lowest and the highest RST opcode. -/
theorem witness_MaskableFixedVectors_rst :
    ∀ v, v ∈ [0xC7#8, 0xFF#8] → ∃ s, AtBoundary s ∧ MaskableAccepted s ∧ s.im = .im0 ∧ s.intData = v ∧
      s.intData.toNat % 8 = 7 ∧ 192 ≤ s.intData.toNat := by
  intro v hv
  refine ⟨requested .im0 v, ⟨rfl, rfl⟩, ⟨rfl, rfl, rfl, rfl, rfl⟩, rfl, rfl, ?_⟩
  revert v
  decide

/-- Mode 0, bytes beside the RST opcodes. -/
theorem witness_MaskableFixedVectors_other :
    ∀ v, v ∈ [0xBF#8, 0xC6#8, 0xFE#8, 0x00#8] → ∃ s, AtBoundary s ∧ MaskableAccepted s ∧ s.im = .im0 ∧ s.intData = v ∧
      ¬ (s.intData.toNat % 8 = 7 ∧ 192 ≤ s.intData.toNat) := by
  intro v hv
  refine ⟨requested .im0 v, ⟨rfl, rfl⟩, ⟨rfl, rfl, rfl, rfl, rfl⟩, rfl, rfl, ?_⟩
  revert v
  decide

theorem witness_MaskableFixedVectors_mode1 : ∃ s, AtBoundary s ∧ MaskableAccepted s ∧ s.im = .im1 :=
  ⟨requested .im1 0#8, ⟨rfl, rfl⟩, ⟨rfl, rfl, rfl, rfl, rfl⟩, rfl⟩

/-- Mode 2 with the vector across the wrap, both bytes in the array. -/
theorem witness_MaskableMode2 :
    ∃ s, AtBoundary s ∧ MaskableAccepted s ∧ s.im = .im2 ∧ joinBytes s.i s.intData = 0xFFFF#16 ∧
      loadCell s.params.mapper (joinBytes s.i s.intData) ≠ none ∧
      loadCell s.params.mapper (joinBytes s.i s.intData + 1#16) ≠ none :=
  ⟨{ requested .im2 0xFF#8 with i := 0xFF#8 }, ⟨rfl, rfl⟩, ⟨rfl, rfl, rfl, rfl, rfl⟩, rfl, by decide, nofun, nofun⟩

theorem witness_InterruptPriority_both :
    ∃ s, AtBoundary s ∧ s.afterPrefix = false ∧ s.nmiPending = true ∧ s.intLine = true ∧ s.iff1 = true :=
  ⟨{ requested .im1 0#8 with nmiPending := true }, ⟨rfl, rfl⟩, rfl, rfl, rfl, rfl⟩

theorem witness_InterruptPriority_prefix :
    ∃ s u, AtBoundary s ∧ s.afterPrefix = true ∧ s.nmiPending = true ∧ s.intLine = true ∧ s.iff1 = true ∧
      step s = .next u :=
  ⟨{ requested .im1 0#8 with nmiPending := true, afterPrefix := true }, _, ⟨rfl, rfl⟩, rfl, rfl, rfl, rfl, rfl⟩

theorem witness_InterruptPriority_masked :
    ∃ s u, AtBoundary s ∧ s.nmiPending = false ∧ s.iff1 = false ∧ s.intLine = true ∧ step s = .next u :=
  ⟨{ requested .im1 0#8 with iff1 := false }, _, ⟨rfl, rfl⟩, rfl, rfl, rfl, rfl⟩

theorem witness_InterruptPriority_inhibited :
    ∃ s u, AtBoundary s ∧ s.nmiPending = false ∧ s.eiInhibit = true ∧ s.iff1 = true ∧ s.intLine = true ∧ step s = .next u :=
  ⟨{ requested .im1 0#8 with eiInhibit := true }, _, ⟨rfl, rfl⟩, rfl, rfl, rfl, rfl, rfl⟩

theorem witness_EiDelaysOneInstruction :
    ∃ s u, AtBoundary s ∧ s.eiInhibit = true ∧ s.nmiPending = false ∧ s.afterPrefix = false ∧ s.halted = false ∧
      PlainFetch s ∧ instrAt s ≠ .ei ∧ (∀ xy, instrAt s ≠ .ignoredIndexPrefix xy) ∧ step s = .next u ∧ u.fault = none ∧
      s.intLine = true ∧ s.iff1 = true ∧ hasHandler (instrAt s) s = true ∧ u.iff1 = true ∧ u.im = .im1 :=
  ⟨{ requested .im1 0#8 with eiInhibit := true }, _, ⟨rfl, rfl⟩, rfl, rfl, rfl, rfl, plainFetch_of_no_mapper _ rfl,
    by decide, fun xy => by cases xy <;> decide, rfl, rfl, rfl, rfl, by decide, rfl, rfl⟩

theorem witness_IdleStepWhileHalted : ∃ s, AtBoundary s ∧ NoAcceptance s ∧ s.halted = true :=
  ⟨{ State.reset with halted := true, intLine := true }, ⟨rfl, rfl⟩, ⟨by decide, by decide⟩, rfl⟩

theorem witness_FaultedStateHasNoStep :
    (∃ s k, s.params.arch = .z80 ∧ State.fault s = some k) ∧ ∃ s : State, s.params.arch = .i8080 :=
  ⟨⟨{ State.reset with fault := some (.im0DataError 0#16 0#8) }, _, rfl, rfl⟩,
    ⟨{ State.reset with params := { Config.Params.atReset with arch := .i8080 } }, rfl⟩⟩

/-- A state that meets the invariant with every one-boundary bit it allows set. -/
theorem witness_StepKeepsInvariant : ∃ s u, Inv s ∧ s.eiInhibit = true ∧ s.mem ≠ [] ∧ step s = .next u :=
  ⟨{ on 0x3E#8 0x7B#8 0x00#8 0x00#8 Regs.zero with iff1 := true, iff2 := true, eiInhibit := true }, _,
    ⟨by decide, by decide, by decide, by decide, by decide⟩, rfl, by decide, rfl⟩

theorem witness_StepChargesTStates_runs : ∃ s u, State.fault s = none ∧ step s = .next u ∧ u.fault = none :=
  ⟨State.reset, _, rfl, rfl, rfl⟩

theorem witness_StepChargesTStates_faults : ∃ s u, State.fault s = none ∧ step s = .next u ∧ u.fault ≠ none :=
  ⟨requested .im0 0#8, _, rfl, rfl, by decide⟩

theorem witness_RefreshCountsFetches :
    (∃ i s u, exec i s = .next u ∧ i ≠ .ldRA ∧ m1Fetches i = 2) ∧ ∃ s u, exec .ldRA s = .next u :=
  ⟨⟨.ldIA, State.reset, _, rfl, by decide, by decide⟩, State.reset, _, rfl⟩

/-- One instruction for each clause, on a state in which it changes what the clause speaks of. -/
theorem witness_ControlStateWriters :
    (∃ i s u, exec i s = .next u ∧ u.i ≠ s.i) ∧ (∃ i s u, exec i s = .next u ∧ u.im ≠ s.im) ∧
      (∃ i s u, exec i s = .next u ∧ u.alt ≠ s.alt) ∧ (∃ i s u, exec i s = .next u ∧ u.iff2 ≠ s.iff2) ∧
      (∃ i s u, exec i s = .next u ∧ u.iff1 ≠ s.iff1) ∧ (∃ i s u, exec i s = .next u ∧ u.halted ≠ s.halted) ∧
      (∃ i s u, exec i s = .next u ∧ u.eiInhibit ≠ s.eiInhibit) ∧
      ∃ i s u, exec i s = .next u ∧ u.afterPrefix ≠ s.afterPrefix :=
  ⟨⟨.ldIA, State.reset, _, rfl, by decide⟩, ⟨.im1, State.reset, _, rfl, by decide⟩,
    ⟨.exAfAf, State.reset, _, rfl, by decide⟩, ⟨.ei, State.reset, _, rfl, by decide⟩,
    ⟨.ei, State.reset, _, rfl, by decide⟩, ⟨.halt, State.reset, _, rfl, by decide⟩,
    ⟨.ei, State.reset, _, rfl, by decide⟩, ⟨.ignoredIndexPrefix .ix, State.reset, _, rfl, by decide⟩⟩

theorem witness_OnlyStoringInstructionsWriteMemory : ∃ i s u, storesMemory i = false ∧ exec i s = .next u :=
  ⟨.outi, State.reset, _, rfl, rfl⟩

/-- Both values of `RESET_REGS`. -/
theorem witness_ResetOperation :
    ∀ k, ∃ s : State, s.params.resetRegs = k :=
  fun k => ⟨{ State.reset with params := { Config.Params.atReset with resetRegs := k } }, rfl⟩

/-- A word across the wrap of the address space, and a stack there, in the flat array. -/
theorem witness_WordAndStackAccess :
    ∃ (s : State) (a : Word), a = 0xFFFF#16 ∧ ReachesCell s a a ∧ ReachesCell s (a + 1#16) (a + 1#16) ∧ a ≠ a + 1#16 ∧
      loadCell s.params.mapper a ≠ none ∧ loadCell s.params.mapper (a + 1#16) ≠ none ∧ s.sp = a ∧
      ReachesCell s (s.sp - 1#16) 0xFFFE#16 ∧ ReachesCell s (s.sp - 2#16) 0xFFFD#16 :=
  ⟨State.reset, 0xFFFF#16, rfl, ⟨rfl, rfl⟩, ⟨rfl, rfl⟩, by decide, nofun, nofun, rfl, ⟨rfl, rfl⟩, ⟨rfl, rfl⟩⟩

/-- The same word where the mapper mirrors its first byte from elsewhere. -/
theorem witness_WordAndStackAccess_mirror :
    ∃ s : State, ReachesCell s 0x2000#16 0x0100#16 ∧ ReachesCell s (0x2000#16 + 1#16) 0x2001#16 :=
  ⟨{ State.reset with params := { Config.Params.atReset with mapper := [.mirror 0x2000 1 0x0100] } }, ⟨rfl, rfl⟩, ⟨rfl, rfl⟩⟩

theorem witness_PushThenPopMovesPair :
    ∃ s : State, s.sp = 1#16 ∧ ReachesCell s (s.sp - 1#16) 0#16 ∧ ReachesCell s (s.sp - 2#16) 0xFFFF#16 :=
  ⟨{ State.reset with sp := 1#16 }, rfl, ⟨rfl, rfl⟩, ⟨rfl, rfl⟩⟩

/-- The clauses of `MemoryInterface`: no mapper, a cell elsewhere, and an address that is the host's both ways. -/
theorem witness_MemoryInterface :
    (∃ s : State, s.params.mapper = []) ∧ (∃ s : State, ReachesCell s 0x2000#16 0x0100#16) ∧
      ∃ s : State, loadCell s.params.mapper 0x2000#16 = none ∧ storeCell s.params.mapper 0x2000#16 = none ∧
        s.hostReplies = [0x99#8] :=
  ⟨⟨State.reset, rfl⟩,
    ⟨{ State.reset with params := { Config.Params.atReset with mapper := [.mirror 0x2000 1 0x0100] } }, rfl, rfl⟩,
    { State.reset with
      params := { Config.Params.atReset with mapper := [.device 0x2000 1] }, hostReplies := [0x99#8] }, rfl, rfl, rfl⟩

/-- Each condition is met and not met by some flags (the clauses of `Jumps`, `Calls` and `Returns`). -/
theorem witness_conditions :
    (∀ cc, ruleCond cc 0x00#8 = true ∧ ruleCond cc 0xFF#8 = false ∨ ruleCond cc 0x00#8 = false ∧ ruleCond cc 0xFF#8 = true) ∧
      ∀ cc, ruleJrCond cc 0x00#8 = true ∧ ruleJrCond cc 0xFF#8 = false ∨
        ruleJrCond cc 0x00#8 = false ∧ ruleJrCond cc 0xFF#8 = true :=
  ⟨fun cc => by cases cc <;> decide, fun cc => by cases cc <;> decide⟩

/-- The two readings of the flags, and every cell a mapper may give a store, or none (the clauses of `FlagsAre` and
`Stores1`). -/
theorem witness_parameters :
    (∃ s : State, s.params.undocFlags = .exact) ∧ (∃ s : State, s.params.undocFlags = .any) ∧
      (∃ s : State, storeCell s.params.mapper 0x2000#16 = none) ∧
        ∃ s : State, storeCell s.params.mapper 0x2000#16 = some 0x0100#16 :=
  ⟨⟨State.reset, rfl⟩, ⟨{ State.reset with params := { Config.Params.atReset with undocFlags := .any } }, rfl⟩,
    ⟨{ State.reset with params := { Config.Params.atReset with mapper := [.rom 0x2000 1] } }, rfl⟩,
    ⟨{ State.reset with params := { Config.Params.atReset with mapper := [.mirror 0x2000 1 0x0100] } }, rfl⟩⟩

/-- A repeating block instruction that repeats, and one that ends (the clauses of the four block statements). -/
theorem witness_repeats :
    (∃ s : State, getPair .bc s - 1#16 ≠ 0#16 ∧ s.main.b.toNat ≠ 1 ∧ s.main.a ≠ (memRead s (getPair .hl s)).1) ∧
      ∃ s : State, getPair .bc s - 1#16 = 0#16 :=
  ⟨⟨on 0x00#8 0x00#8 0x00#8 0x00#8 { Regs.zero with a := 1#8, b := 2#8 }, by decide, by decide, by decide⟩,
    ⟨on 0x00#8 0x00#8 0x00#8 0x00#8 { Regs.zero with c := 1#8 }, by decide⟩⟩

/-- A set carry before DAA (the last clause of `ArithmeticLaws`). -/
theorem witness_ArithmeticLaws : ∃ s : State, s.main.f.getLsbD 0 = true := ⟨State.reset, by decide⟩

end Sys2Proof.Tests
end

section
/-! PROOFS. Memory and the stack (00_scope.md R11, R13; 20_memory.md R61, R63, R65): what a word read and a word written do,
what a store reads back as, and the settlements of O23 and O59. -/

namespace Sys2Proof.Machine

open Claims

variable (s : State)

/-- A word is its low byte plus 256 times its high byte (R11). -/
theorem joinBytes_toNat (h l : Byte) : (joinBytes h l).toNat = l.toNat + 256 * h.toNat := by
  rw [joinBytes, BitVec.toNat_append, ← Nat.shiftLeft_add_eq_or_of_lt l.isLt, Nat.shiftLeft_eq]
  omega

/-! ### A read -/

/-- The host hands over the first of its replies (R61, log 6). -/
theorem hostByte_of_replies {v : Byte} {rest : List Byte} (h : s.hostReplies = v :: rest) :
    hostByte s = (v, { s with hostReplies := rest }) := by
  simp [hostByte, h]

/-- A word read the array answers: the two bytes, the low one first, and the record of two more accesses (R11, R63). -/
theorem memRead16_plain {a : Word} (h0 : loadCell s.params.mapper a ≠ none)
    (h1 : loadCell s.params.mapper (a + 1#16) ≠ none) :
    memRead16 s a = (joinBytes (arrayByte s (a + 1#16)) (arrayByte s a),
      { s with calls := s.calls ++ [.memRead a (arrayByte s a), .memRead (a + 1#16) (arrayByte s (a + 1#16))] }) := by
  have e0 := memRead_plain s h0
  have e1 := memRead_plain (logCall (.memRead a (arrayByte s a)) s) h1
  simp only [memRead16, e0, e1, arrayByte_logCall]
  simp [logCall]

/-! ### A store -/

/-- A write the host takes is recorded and does nothing else (R61). -/
theorem memWrite_of_host {a : Word} (v : Byte) (h : storeCell s.params.mapper a = none) :
    memWrite s a v = logCall (.memWrite a v) s := by
  simp [memWrite, h]

/-- Nothing but the array and the record of accesses changes in a store. -/
theorem except_memWrite (a : Word) (v : Byte) : Except [.mem, .calls] s (memWrite s a v) := by
  intro f hf
  cases f <;> simp [Field.same] at hf ⊢

/-- Nothing but SP, the array and the record of accesses changes in a push. -/
theorem except_push16 (v : Word) : Except [.sp, .mem, .calls] s (push16 v s) := by
  intro f hf
  cases f <;> simp [Field.same] at hf ⊢

theorem stores2_memWrite16 (a w : Word) : Stores2 a (loByte w) (a + 1#16) (hiByte w) s (memWrite16 s a w) :=
  ⟨by simp [memWrite16], peek_memWrite16 s a w⟩

theorem pushes_push16 (v : Word) : Pushes v s (push16 v s) :=
  ⟨⟨push16_calls s v, peek_push16 s v⟩, push16_sp s v⟩

/-! ### What a store reads back as -/

/-- A byte stored in the array reads back (R61). -/
theorem memRead_memWrite_same {a c : Word} (h : ReachesCell s a c) (v : Byte) : (memRead (memWrite s a v) a).1 = v := by
  obtain ⟨hload, hstore⟩ := h
  rw [memRead_of_cell (c := c) _ (by simpa using hload), peek_memWrite, if_pos hstore]

variable {s} {u : State} {a b c d : Word} {v w : Byte}

/-- Of two bytes stored, the second reads back. -/
theorem arrayByte_second_of_stores2 (h : Stores2 a v b w s u) (hp : u.params = s.params) (hb : ReachesCell s b d) :
    arrayByte u b = w := by
  obtain ⟨hload, hstore⟩ := hb
  rw [arrayByte_of_loadCell (c := d) (by rw [hp, hload]), h.2, if_pos hstore]

/-- Of two bytes stored, the first reads back where the second went to another cell. -/
theorem arrayByte_first_of_stores2 (h : Stores2 a v b w s u) (hp : u.params = s.params) (ha : ReachesCell s a c)
    (hb : ReachesCell s b d) (hcd : c ≠ d) : arrayByte u a = v := by
  obtain ⟨hload, hstore⟩ := ha
  have hother : storeCell s.params.mapper b ≠ some c := by
    rw [hb.2]
    exact fun e => hcd (Option.some.inj e).symm
  rw [arrayByte_of_loadCell (c := c) (by rw [hp, hload]), h.2, if_neg hother, if_pos hstore]

/-- Where reads reach a cell, the array answers them, in every state under the same mapper. -/
theorem loadCell_ne_none_of_reachesCell (h : ReachesCell s a c) (hp : u.params = s.params) :
    loadCell u.params.mapper a ≠ none := by
  rw [hp, h.1]
  exact Option.some_ne_none c

/-- A word written to two cells reads back (R11, R63). -/
theorem memRead16_memWrite16 (w : Word) (ha : ReachesCell s a c) (hb : ReachesCell s (a + 1#16) d) (hcd : c ≠ d) :
    (memRead16 (memWrite16 s a w) a).1 = w := by
  have hp := memWrite16_params s a w
  have hs := stores2_memWrite16 s a w
  rw [memRead16_plain _ (loadCell_ne_none_of_reachesCell ha hp) (loadCell_ne_none_of_reachesCell hb hp),
    arrayByte_first_of_stores2 hs hp ha hb hcd, arrayByte_second_of_stores2 hs hp hb, joinBytes_hi_lo]

/-- A word pushed to two cells is popped again (R13). -/
theorem pop16_push16 (v : Word) (ha : ReachesCell s (s.sp - 1#16) c) (hb : ReachesCell s (s.sp - 2#16) d) (hcd : c ≠ d) :
    (pop16 (push16 v s)).1 = v := by
  have hp := push16_params s v
  have hs := (pushes_push16 s v).1
  have hnext : s.sp - 2#16 + 1#16 = s.sp - 1#16 := by bv_omega
  rw [pop16_eq, push16_sp, memRead16_plain _ (loadCell_ne_none_of_reachesCell hb hp)
      (by rw [hnext]; exact loadCell_ne_none_of_reachesCell ha hp),
    hnext, arrayByte_first_of_stores2 hs hp ha hb hcd, arrayByte_second_of_stores2 hs hp hb, joinBytes_hi_lo]

/-- A push takes 2 from SP and a pop gives it back (R13). -/
theorem pop16_push16_sp (s : State) (v : Word) : (pop16 (push16 v s)).2.sp = s.sp := by
  rw [pop16_sp, push16_sp, BitVec.sub_add_cancel]

/-- A device over the whole address space leaves every address to the host (R61, log 10). -/
theorem regionAt_device_all (a : Word) :
    regionAt [Config.Region.device 0 65536] a = some (Config.Region.device 0 65536) :=
  if_pos ⟨Nat.zero_le _, by simpa [Config.Region.device] using a.isLt⟩

/-- Settles O23: a word access is its two byte accesses (`memRead16_plain`, `stores2_memWrite16`), a push and a pop are word
accesses at SP, and two bytes stored in two cells read back. -/
theorem wordAndStackAccess : Obligations.WordAndStackAccess := by
  unfold Obligations.WordAndStackAccess
  refine ⟨⟨stores2_memWrite16, fun s a h0 h1 => ?_, fun s a w c d ha hb hcd => ?_⟩,
    fun s v => ⟨pushes_push16 s v, except_push16 s v⟩, fun s h0 h1 => ?_, fun s v c d ha hb hcd => ?_⟩
  · rw [memRead16_plain s h0 h1]
    exact ⟨joinBytes_toNat _ _, rfl⟩
  · have hp := memWrite16_params s a w
    have hs := stores2_memWrite16 s a w
    exact ⟨arrayByte_first_of_stores2 hs hp ha hb hcd, arrayByte_second_of_stores2 hs hp hb,
      memRead16_memWrite16 w ha hb hcd⟩
  · rw [pop16_eq, memRead16_plain s h0 h1]
    exact ⟨joinBytes_toNat _ _, rfl⟩
  · exact ⟨pop16_push16 v ha hb hcd, pop16_push16_sp s v⟩

/-- Settles O59: the array answers where the mapper gives a cell, the host where it gives none. -/
theorem memoryInterface : Obligations.MemoryInterface := by
  unfold Obligations.MemoryInterface
  refine ⟨fun s a hm => ⟨?_, fun v => ⟨?_, fun c hc => ?_, except_memWrite s a v⟩⟩,
    fun s a c h v => memRead_memWrite_same s h v, fun s a v rest ha hr => ?_, fun s a v => memWrite_of_host s v,
    fun a => ?_⟩
  · rw [memRead_of_cell s (c := a) (by rw [hm, loadCell_nil]), logCall]
  · rw [peek_memWrite, hm, storeCell_nil, if_pos rfl]
  · rw [peek_memWrite, hm, storeCell_nil, if_neg fun e => hc (Option.some.inj e).symm]
  · rw [memRead_of_host s ha, hostByte_of_replies s hr, logCall]
  · rw [loadCell, storeCell, regionAt_device_all]
    exact ⟨rfl, rfl⟩

end Sys2Proof.Machine
end

section
/-! PROOFS. The control state of the machine: what no instruction writes but the few named by 10_state.md R22, R29 to R35 and
R41. One law, `exec_endsWith_controlAfter`, says for every instruction what it leaves there, the refresh counter among it. -/

namespace Sys2Proof.Machine

open Claims

/-- The fields of the state an instruction writes only where its rule names them (R22, R29 to R35, R41), the refresh counter
(R30), and those no instruction writes (R33, R37). -/
structure ControlState where
  alt : Regs
  i : Byte
  r : Byte
  iff1 : Bool
  iff2 : Bool
  im : IntMode
  intLine : Bool
  intData : Byte
  nmiPending : Bool
  eiInhibit : Bool
  afterPrefix : Bool
  halted : Bool
  fault : Option FaultRecord
  params : Config.Params

/-- The control state of a state. -/
def control (s : State) : ControlState :=
  ⟨s.alt, s.i, s.r, s.iff1, s.iff2, s.im, s.intLine, s.intData, s.nmiPending, s.eiInhibit, s.afterPrefix, s.halted,
    s.fault, s.params⟩

/-! ### No operation but the M1 count writes the control state -/

variable (s : State)

@[simp] theorem control_m1 (k : Nat) : control (m1 k s) = { control s with r := refresh k s.r } := rfl
@[simp] theorem control_logCall (c : HostCall) : control (logCall c s) = control s := rfl
@[simp] theorem control_setMain (g : Regs) : control (setMain g s) = control s := rfl
@[simp] theorem control_setReg (q : Reg8) (v : Byte) : control (setReg q v s) = control s := rfl
@[simp] theorem control_setPair (rr : RegPair) (w : Word) : control (setPair rr w s) = control s := by simp [control]
@[simp] theorem control_setStackPair (qq : StackPair) (w : Word) : control (setStackPair qq w s) = control s := by
  simp [control]
@[simp] theorem control_setXy (xy : IndexReg) (w : Word) : control (setXy xy w s) = control s := by simp [control]
@[simp] theorem control_setHalf (xy : IndexReg) (h : Half) (v : Byte) : control (setHalf xy h v s) = control s := by
  simp [control]
@[simp] theorem control_setHalfReg (xy : IndexReg) (q : HalfReg) (v : Byte) :
    control (setHalfReg xy q v s) = control s := by
  simp [control]
@[simp] theorem control_putFlags (mask : Byte) (b : FlagBits) : control (putFlags mask b s) = control s := by
  simp [control]
@[simp] theorem control_putFlagsFree (mask : Byte) (b : FlagBits) : control (putFlagsFree mask b s) = control s := rfl
@[simp] theorem control_memRead (a : Word) : control (memRead s a).2 = control s := by simp [control]
@[simp] theorem control_memWrite (a : Word) (v : Byte) : control (memWrite s a v) = control s := by simp [control]
@[simp] theorem control_memRead16 (a : Word) : control (memRead16 s a).2 = control s := by simp [control]
@[simp] theorem control_memWrite16 (a w : Word) : control (memWrite16 s a w) = control s := by simp [control]
@[simp] theorem control_push16 (v : Word) : control (push16 v s) = control s := by simp [control]
@[simp] theorem control_pop16 : control (pop16 s).2 = control s := by simp [control]
@[simp] theorem control_ioRead (p : Word) : control (ioRead s p).2 = control s := by simp [control]
@[simp] theorem control_ioWrite (p : Word) (v : Byte) : control (ioWrite s p v) = control s := rfl
@[simp] theorem control_aluAdd (v : Byte) : control (aluAdd v s) = control s := by simp [control]
@[simp] theorem control_aluAdc (v : Byte) : control (aluAdc v s) = control s := by simp [control]
@[simp] theorem control_aluSub (v : Byte) : control (aluSub v s) = control s := by simp [control]
@[simp] theorem control_aluSbc (v : Byte) : control (aluSbc v s) = control s := by simp [control]
@[simp] theorem control_aluAnd (v : Byte) : control (aluAnd v s) = control s := by simp [control]
@[simp] theorem control_aluXor (v : Byte) : control (aluXor v s) = control s := by simp [control]
@[simp] theorem control_aluOr (v : Byte) : control (aluOr v s) = control s := by simp [control]
@[simp] theorem control_aluCp (v : Byte) : control (aluCp v s) = control s := by simp [control]
@[simp] theorem control_stepMem (f : Byte → FlagBits → Byte × FlagBits) (a : Word) :
    control (stepMem f a s) = control s := by
  simp [control]
@[simp] theorem control_rotMem (f : Byte → Bool → Byte × Bool) (a : Word) : control (rotMem f a s).2 = control s := by
  simp [control]
@[simp] theorem control_bitMem (f : Byte → Byte) (a : Word) : control (bitMem f a s).2 = control s := by simp [control]
@[simp] theorem control_exchangeSp (w : Word) : control (exchangeSp w s).2 = control s := by simp [control]
@[simp] theorem control_blockMove (delta : Word) : control (blockMove delta s) = control s := by simp [control]
@[simp] theorem control_blockSearch (delta : Word) : control (blockSearch delta s).2 = control s := by simp [control]
@[simp] theorem control_blockIn (delta : Int) : control (blockIn delta s) = control s := by simp [control]
@[simp] theorem control_blockOut (delta : Int) : control (blockOut delta s) = control s := by simp [control]

/-! ### How many M1 fetches an instruction counts -/

@[simp] theorem isPrefixByte_cb : isPrefixByte 0xCB#8 = true := rfl
@[simp] theorem isPrefixByte_ed : isPrefixByte 0xED#8 = true := rfl
@[simp] theorem isPrefixByte_indexByte (xy : IndexReg) : isPrefixByte xy.byte = true := by cases xy <;> rfl

@[simp] theorem isPrefixByte_opXYZ_k0 (y z : Code3) : isPrefixByte (opXYZ .k0 y z) = false := by
  cases y <;> cases z <;> rfl

/-- The four prefixes in the quarter x = 3 of the opcode map: 0xCB, and 0xDD, 0xED, 0xFD (R91). -/
@[simp] theorem isPrefixByte_opXYZ_k3 (y z : Code3) :
    isPrefixByte (opXYZ .k3 y z) = (y == .k1 && z == .k3 || (y == .k3 || y == .k5 || y == .k7) && z == .k5) := by
  cases y <;> cases z <;> rfl

@[simp] theorem isPrefixByte_opXPQZ_k0 (p : Code2) (q : Bool) (z : Code3) : isPrefixByte (opXPQZ .k0 p q z) = false := by
  cases p <;> cases q <;> cases z <;> rfl

@[simp] theorem isPrefixByte_callByte : isPrefixByte (opXPQZ .k3 .k0 true .k5) = false := rfl

/-! ### The ends of an instruction -/

/-- The outcome is a next state with the control state `c`. -/
def EndsWith (c : ControlState) (res : Result) : Prop := ∃ u, res = .next u ∧ control u = c

section
variable {s} {c : ControlState}

theorem endsWith_retire {len t : Nat} (h : control s = c) : EndsWith c (retire len t s) := ⟨_, rfl, h⟩

theorem endsWith_jumpTo {target : Word} {t : Nat} (h : control s = c) : EndsWith c (jumpTo target t s) := ⟨_, rfl, h⟩

theorem endsWith_repeatOrRetire {again : Bool} (h : control s = c) : EndsWith c (repeatOrRetire again s) := by
  cases again
  · exact endsWith_retire h
  · exact endsWith_jumpTo h

theorem endsWith_ite {p : Prop} [Decidable p] {x y : Result} (hx : EndsWith c x) (hy : EndsWith c y) :
    EndsWith c (if p then x else y) := by
  split
  · exact hx
  · exact hy

end

/-- RETN and RETI copy IFF2 to IFF1 (R426). -/
theorem endsWith_returnFromInterrupt : EndsWith { control s with iff1 := s.iff2 } (returnFromInterrupt s) :=
  ⟨_, rfl, congrArg (fun c : ControlState => { c with iff1 := s.iff2 }) (control_pop16 s)⟩

/-! ### What every instruction leaves in the control state -/

/-- The control state with the M1 fetches of an instruction counted (R30). -/
def counted (i : Instr) (s : State) : ControlState := { control s with r := refresh (m1Fetches i) s.r }

/-- The control state an instruction leaves: the M1 fetches counted, and the fields the rule of one of the few writers names
(R22, R29 to R32, R34, R35, R41). -/
def controlAfter (i : Instr) (s : State) : ControlState :=
  match i with
  | .ldRA => { control s with r := s.main.a }
  | .ldIA => { counted i s with i := s.main.a }
  | .im0 => { counted i s with im := .im0 }
  | .im1 => { counted i s with im := .im1 }
  | .im2 => { counted i s with im := .im2 }
  | .imAlias y => { counted i s with im := aliasMode y }
  | .exAfAf => { counted i s with alt := { s.alt with a := s.main.a, f := s.main.f } }
  | .exx => { counted i s with alt := { s.main with a := s.alt.a, f := s.alt.f } }
  | .di => { counted i s with iff1 := false, iff2 := false }
  | .ei => { counted i s with iff1 := true, iff2 := true, eiInhibit := true }
  | .retn | .reti | .retnAlias _ => { counted i s with iff1 := s.iff2 }
  | .halt => { counted i s with halted := true }
  | .ignoredIndexPrefix _ => { counted i s with afterPrefix := true }
  | _ => counted i s

/-- Every instruction completes, and leaves the control state `controlAfter` gives. An instruction is a chain of operations,
none of which but the M1 count writes the control state, and one of the ends of an instruction; the writers add their own
fields. -/
theorem exec_endsWith_controlAfter (i : Instr) : EndsWith (controlAfter i s) (exec i s) := by
  cases i
  case ldRA | ldIA | im0 | im1 | im2 | imAlias | exAfAf | exx | di | ei | halt | ignoredIndexPrefix =>
    exact ⟨_, rfl, rfl⟩
  case retn | reti | retnAlias => exact endsWith_returnFromInterrupt (m1 2 s)
  case ret | jp | jr | jpHl | jpXy | call | rst =>
    refine endsWith_jumpTo ?_
    simp [controlAfter, counted, m1Fetches, encode, encMain, encXY, immBytes]
  case jpCc | callCc | retCc | jrCc | djnz =>
    refine endsWith_ite (endsWith_jumpTo ?_) (endsWith_retire ?_)
    all_goals simp [controlAfter, counted, m1Fetches, encode, encMain, immBytes]
  case ldir | lddr | cpir | cpdr | inir | indr | otir | otdr =>
    refine endsWith_repeatOrRetire ?_
    simp [controlAfter, counted, m1Fetches, encode, encED]
  case ldSpHl | ldSpXy =>
    refine endsWith_retire ?_
    simp [control, controlAfter, counted, m1Fetches, encode, encXY]
  all_goals
    refine endsWith_retire ?_
    simp [controlAfter, counted, m1Fetches, encode, encMain, encCB, encED, encXY, encXYCB, immBytes]

/-- The control state after an instruction, for any next state `exec` answers. -/
theorem control_of_exec {i : Instr} {s u : State} (h : exec i s = .next u) : control u = controlAfter i s := by
  obtain ⟨v, hv, hc⟩ := exec_endsWith_controlAfter s i
  obtain rfl : u = v := Host.Outcome.next.inj (h.symm.trans hv)
  exact hc

/-- Every instruction but `LD R,A` counts its M1 fetches in R (R30). -/
theorem controlAfter_r {i : Instr} (h : i ≠ .ldRA) : (controlAfter i s).r = refresh (m1Fetches i) s.r := by
  unfold controlAfter
  split
  case h_1 => exact absurd rfl h
  all_goals rfl

/-- Settles O17: R is the refresh counter of the control state, and `refresh` counts in its low seven bits. -/
theorem refreshCountsFetches : Obligations.RefreshCountsFetches := by
  unfold Obligations.RefreshCountsFetches
  refine ⟨fun i s u h hi => ?_, fun s u h => congrArg ControlState.r (control_of_exec h)⟩
  have hr : u.r = refresh (m1Fetches i) s.r :=
    (congrArg ControlState.r (control_of_exec h)).trans (controlAfter_r s hi)
  rw [Counted, hr]
  exact ⟨refresh_mod _ _, refresh_bit7 _ _⟩

/-- Settles O18: in each case of `controlAfter` a field either keeps its value or the instruction is one of its writers. -/
theorem controlStateWriters : Obligations.ControlStateWriters := by
  unfold Obligations.ControlStateWriters
  intro i s u h
  have hc := control_of_exec h
  unfold controlAfter at hc
  split at hc
  all_goals
    simp only [control, counted, ControlState.mk.injEq] at hc
    simp [hc]

end Sys2Proof.Machine
end

section
/-! PROOFS. The state after a stop and after reset (10_state.md R37, R40; 70_reset_and_hazards.md R450, R451), and the views
of the registers (R21, R26). -/

namespace Sys2Proof.Machine

variable (s : State)

/-! ### Bytes of a word, bits of the flag byte -/

/-- The high byte of a word is its quotient by 256 (R9). -/
theorem hiByte_toNat (w : Word) : (hiByte w).toNat = w.toNat / 256 := by
  have hw := w.isLt
  rw [hiByte, BitVec.extractLsb'_toNat, Nat.shiftRight_eq_div_pow]
  omega

/-- The low byte of a word is its remainder by 256 (R9). -/
theorem loByte_toNat (w : Word) : (loByte w).toNat = w.toNat % 256 := by
  rw [loByte, BitVec.extractLsb'_toNat, Nat.shiftRight_zero]

/-- Each flag stands at its bit of the packed byte (R26). -/
theorem FlagBits.toByte_toNat (b : FlagBits) :
    b.toByte.toNat =
      128 * b.s.toNat + 64 * b.z.toNat + 32 * b.f5.toNat + 16 * b.h.toNat + 8 * b.f3.toNat + 4 * b.pv.toNat +
        2 * b.n.toNat + b.c.toNat := by
  rcases b with ⟨_ | _, _ | _, _ | _, _ | _, _ | _, _ | _, _ | _, _ | _⟩ <;> rfl

/-- A word of two bytes as a number, the high byte first (R21). -/
theorem joinBytes_eq_ofNat (h l : Byte) : joinBytes h l = BitVec.ofNat 16 (h.toNat * 256 + l.toNat) := by
  refine BitVec.eq_of_toNat_eq ?_
  have hh := h.isLt
  have hl := l.isLt
  rw [joinBytes_toNat, BitVec.toNat_ofNat]
  omega

/-- A half written to an index register joins with the other half of what was there (R21). -/
theorem getXy_setHalf_setXy (xy : IndexReg) (h : Half) (v : Byte) (w : Word) :
    getXy xy (setHalf xy h v (setXy xy w s)) = withHalf h v w := by
  rw [setHalf, getXy_setXy, getXy_setXy]

/-- Settles O22: a pair is `joinBytes` of its registers, and its halves are the quotient and remainder of `hiByte_toNat` and
`loByte_toNat`. -/
theorem registerViews : Obligations.RegisterViews := by
  unfold Obligations.RegisterViews
  have view (h l : Byte) : (joinBytes h l).toNat = h.toNat * 256 + l.toNat := by rw [joinBytes_toNat]; omega
  refine ⟨⟨FlagBits.toByte_ofByte, FlagBits.ofByte_toByte, FlagBits.toByte_toNat⟩, fun s w =>
    ⟨fun rr => getPair_setPair s rr w, fun qq => getStackPair_setStackPair s qq w, fun xy => getXy_setXy s xy w,
      hiByte_toNat w, loByte_toNat w, hiByte_toNat w, loByte_toNat w, hiByte_toNat w, loByte_toNat w, hiByte_toNat w,
      loByte_toNat w, view _ _, view _ _, view _ _, view _ _, rfl, rfl, rfl, rfl, fun xy v => ⟨?_, ?_⟩⟩⟩
  · rw [getXy_setHalf_setXy, withHalf, joinBytes_eq_ofNat, loByte_toNat]
  · rw [getXy_setHalf_setXy, withHalf, joinBytes_eq_ofNat, hiByte_toNat]

/-! ### States without a step -/

/-- Settles O13: the two stops stand before the boundary step. -/
theorem faultedStateHasNoStep : Obligations.FaultedStateHasNoStep := by
  unfold Obligations.FaultedStateHasNoStep
  refine ⟨fun s k ha hf => ?_, fun s ha => ?_⟩
  · simp only [step, cycle, ha, hf]
  · simp only [step, cycle, ha]

/-! ### Reset -/

/-- Settles O15: memory is listed empty, no bit of the interrupt state is set, and there is no fault. -/
theorem resetMeetsInvariant : Obligations.ResetMeetsInvariant :=
  { mem := wf_reset, iff := by decide, inhibit := by decide, afterPrefix := by decide, status := by decide }

/-- The pairs of the main set under `RESET_REGS` = fixed (R40). -/
theorem Regs.atReset_pairs :
    Regs.atReset.af = 0xFFFF#16 ∧ Regs.atReset.bc = 0#16 ∧ Regs.atReset.de = 0#16 ∧ Regs.atReset.hl = 0#16 := by
  decide

/-- The pairs of the shadow set under `RESET_REGS` = fixed (R40). -/
theorem Regs.zero_pairs : Regs.zero.af = 0#16 ∧ Regs.zero.bc = 0#16 ∧ Regs.zero.de = 0#16 ∧ Regs.zero.hl = 0#16 := by
  decide

/-- `reset()` under `RESET_REGS` = fixed (R450, D12). -/
theorem hostReset_of_fixed (h : s.params.resetRegs = .fixed) :
    hostReset s = { resetControl s with
      main := Regs.atReset, alt := Regs.zero, ix := 0#16, iy := 0#16, sp := 0xFFFF#16 } := by
  simp only [hostReset, h]

/-- `reset()` under `RESET_REGS` = draw: the registers it leaves open are the next 22 free values (R450, log 5). -/
theorem hostReset_of_draw (h : s.params.resetRegs = .draw) :
    hostReset s = { resetControl s with
      main := Regs.drawn s.draws, alt := Regs.drawn (s.draws + 8), ix := drawnWord (s.draws + 16),
      iy := drawnWord (s.draws + 18), sp := drawnWord (s.draws + 20), draws := s.draws + 22 } := by
  simp only [hostReset, h]

/-- Settles O21: the fields of `resetControl` under both values of `RESET_REGS`, and the registers of each. -/
theorem resetOperation : Obligations.ResetOperation := by
  unfold Obligations.ResetOperation
  intro s
  cases hk : s.params.resetRegs with
  | fixed =>
    rw [hostReset_of_fixed s hk]
    simp [resetControl, peek, Regs.atReset_pairs, Regs.zero_pairs]
  | draw =>
    rw [hostReset_of_draw s hk]
    simp [resetControl, peek]

end Sys2Proof.Machine
end

section
/-! PROOFS. Memory over an instruction and the invariant over a step (20_memory.md R60, R61, R67; 10_state.md R31, R34, R41;
60_exceptions.md R400, R410). One law, `exec_endsLeaving`, says for every instruction what it does to the byte array; with
`exec_endsWith_controlAfter` it gives the invariant after every step. -/

namespace Sys2Proof.Machine

open Claims

variable (s : State) {m : Memory}

/-! ### The canonical form of memory -/

/-- The array `m'` is in canonical form where `m` is. -/
def KeepsForm (m m' : Memory) : Prop := m.wf = true → m'.wf = true

@[simp] theorem keepsForm_refl (m : Memory) : KeepsForm m m := id

variable {s}

@[simp] theorem keepsForm_memWrite {a : Word} {v : Byte} (h : KeepsForm m s.mem) : KeepsForm m (memWrite s a v).mem :=
  fun hm => wf_memWrite s a v (h hm)

@[simp] theorem keepsForm_memWrite16 {a w : Word} (h : KeepsForm m s.mem) : KeepsForm m (memWrite16 s a w).mem :=
  fun hm => wf_memWrite16 s a w (h hm)

@[simp] theorem keepsForm_push16 {v : Word} (h : KeepsForm m s.mem) : KeepsForm m (push16 v s).mem :=
  fun hm => wf_push16 s v (h hm)

@[simp] theorem keepsForm_stepMem {f : Byte → FlagBits → Byte × FlagBits} {a : Word} (h : KeepsForm m s.mem) :
    KeepsForm m (stepMem f a s).mem := by
  simp [stepMem, h]

@[simp] theorem keepsForm_rotMem {f : Byte → Bool → Byte × Bool} {a : Word} (h : KeepsForm m s.mem) :
    KeepsForm m (rotMem f a s).2.mem := by
  simp [rotMem, h]

@[simp] theorem keepsForm_bitMem {f : Byte → Byte} {a : Word} (h : KeepsForm m s.mem) :
    KeepsForm m (bitMem f a s).2.mem := by
  simp [bitMem, h]

@[simp] theorem keepsForm_exchangeSp {w : Word} (h : KeepsForm m s.mem) : KeepsForm m (exchangeSp w s).2.mem := by
  simp [exchangeSp, h]

@[simp] theorem keepsForm_blockMove {delta : Word} (h : KeepsForm m s.mem) : KeepsForm m (blockMove delta s).mem := by
  simp [blockMove, h]

@[simp] theorem keepsForm_blockIn {delta : Int} (h : KeepsForm m s.mem) : KeepsForm m (blockIn delta s).mem := by
  simp [blockIn, putBlockIoFlags, h]

/-! ### What every instruction does to memory -/

/-- What an instruction may do to the byte array: nothing where its rule stores nothing, and never break its canonical form
(R60, R67). -/
def LeavesMem (i : Instr) (m m' : Memory) : Prop := KeepsForm m m' ∧ (storesMemory i = false → m' = m)

/-- An array that stays is one every instruction may leave. -/
@[simp] theorem leavesMem_refl (i : Instr) (m : Memory) : LeavesMem i m m := ⟨keepsForm_refl m, fun _ => rfl⟩

/-- The outcome is a next state without the status `Fault`, its array one that `i` may leave from `m` (R400). -/
def EndsLeaving (i : Instr) (m : Memory) (res : Result) : Prop :=
  ∃ u, res = .next u ∧ u.status ≠ .fault ∧ LeavesMem i m u.mem

section
variable {i : Instr}

theorem endsLeaving_retire {len t : Nat} (h : LeavesMem i m s.mem) : EndsLeaving i m (retire len t s) :=
  ⟨_, rfl, nofun, h⟩

theorem endsLeaving_jumpTo {target : Word} {t : Nat} (h : LeavesMem i m s.mem) : EndsLeaving i m (jumpTo target t s) :=
  ⟨_, rfl, nofun, h⟩

theorem endsLeaving_repeatOrRetire {again : Bool} (h : LeavesMem i m s.mem) :
    EndsLeaving i m (repeatOrRetire again s) := by
  cases again
  · exact endsLeaving_retire h
  · exact endsLeaving_jumpTo h

theorem endsLeaving_ite {p : Prop} [Decidable p] {x y : Result} (hx : EndsLeaving i m x) (hy : EndsLeaving i m y) :
    EndsLeaving i m (if p then x else y) := by
  split
  · exact hx
  · exact hy

end

/-- RETN and RETI only read the stack (R317, R318). -/
theorem endsLeaving_returnFromInterrupt {i : Instr} (h : LeavesMem i m s.mem) :
    EndsLeaving i m (returnFromInterrupt s) :=
  endsLeaving_jumpTo (by simpa using h)

variable (s)

/-- Every instruction completes, not faulted, and leaves an array its rule allows. An instruction is a chain of operations,
each of which keeps the array or stores to it, and one of the ends of an instruction. -/
theorem exec_endsLeaving (i : Instr) : EndsLeaving i s.mem (exec i s) := by
  cases i
  case halt => exact ⟨_, rfl, nofun, leavesMem_refl _ _⟩
  case retn | reti | retnAlias => exact endsLeaving_returnFromInterrupt (leavesMem_refl _ _)
  case ret | jp | jr | jpHl | jpXy => exact endsLeaving_jumpTo (by simp)
  case call | rst => exact endsLeaving_jumpTo ⟨by simp, nofun⟩
  case jpCc | retCc | jrCc | djnz => exact endsLeaving_ite (endsLeaving_jumpTo (by simp)) (endsLeaving_retire (by simp))
  case callCc => exact endsLeaving_ite (endsLeaving_jumpTo ⟨by simp, nofun⟩) (endsLeaving_retire (by simp))
  case cpir | cpdr | otir | otdr => exact endsLeaving_repeatOrRetire (by simp)
  case ldir | lddr | inir | indr => exact endsLeaving_repeatOrRetire ⟨by simp, nofun⟩
  all_goals refine endsLeaving_retire ?_
  case ldMHlR | ldMXydR | ldMHlN | ldMXydN | ldMBcA | ldMDeA | ldMNnA | ldMNnHl | ldMNnRr | ldMNnXy | pushQq | pushXy |
      exMSpHl | exMSpXy | ldi | ldd | ini | ind | incMHl | decMHl | incMXyd | decMXyd | rlcMHl | rrcMHl | rlMHl | rrMHl |
      slaMHl | sraMHl | sllMHl | srlMHl | rlcMXyd | rlcMXydR | rrcMXyd | rrcMXydR | rlMXyd | rlMXydR | rrMXyd | rrMXydR |
      slaMXyd | slaMXydR | sraMXyd | sraMXydR | sllMXyd | sllMXydR | srlMXyd | srlMXydR | rld | rrd | resMHl | setMHl |
      resMXyd | resMXydR | setMXyd | setMXydR =>
    exact ⟨by simp, nofun⟩
  all_goals simp

variable {s} {u : State} {i : Instr}

/-- The array and the status after an instruction, for any next state `exec` answers. -/
theorem leavesMem_of_exec (h : exec i s = .next u) : u.status ≠ .fault ∧ LeavesMem i s.mem u.mem := by
  obtain ⟨v, hv, hl⟩ := exec_endsLeaving s i
  obtain rfl : u = v := Host.Outcome.next.inj (h.symm.trans hv)
  exact hl

/-- Settles O19: a read of the array is the same where the array is, which `exec_endsLeaving` says of an instruction that
stores nothing. -/
theorem onlyStoringInstructionsWriteMemory : Obligations.OnlyStoringInstructionsWriteMemory := by
  unfold Obligations.OnlyStoringInstructionsWriteMemory
  intro i s u hi h a
  obtain ⟨-, -, hmem⟩ := leavesMem_of_exec h
  exact peek_congr (hmem hi) a

/-! ### The invariant, by the control state -/

/-- What the invariant says of the control state (R31, R34, R41). -/
structure BitsAgree (c : ControlState) : Prop where
  iff : c.iff1 = true → c.iff2 = true
  inhibit : c.eiInhibit = true → c.iff1 = true ∧ c.afterPrefix = false ∧ c.halted = false
  afterPrefix : c.afterPrefix = true → c.halted = false

/-- The control state an instruction is fetched and executed in: the boundary has cleared the one-boundary bits, and the core
is not halted (R410). -/
structure AtFetch (c : ControlState) : Prop where
  iff : c.iff1 = true → c.iff2 = true
  inhibit : c.eiInhibit = false
  afterPrefix : c.afterPrefix = false
  halted : c.halted = false

theorem Inv.bitsAgree (h : Inv s) : BitsAgree (control s) := ⟨h.iff, h.inhibit, h.afterPrefix⟩

/-- The invariant of a state that is not faulted. -/
theorem inv_of_running (hm : s.mem.wf = true) (hb : BitsAgree (control s)) (hf : s.fault = none) (hs : s.status ≠ .fault) :
    Inv s where
  mem := hm
  iff := hb.iff
  inhibit := hb.inhibit
  afterPrefix := hb.afterPrefix
  status := iff_of_false hs (not_not_intro hf)

/-- A fault report and the status `Fault`, raised together, keep the invariant (R401, R422). -/
theorem inv_of_raised (hm : s.mem.wf = true) (hb : BitsAgree (control s)) (r : FaultRecord) :
    Inv { s with fault := some r, status := .fault } where
  mem := hm
  iff := hb.iff
  inhibit := hb.inhibit
  afterPrefix := hb.afterPrefix
  status := iff_of_true rfl nofun

theorem AtFetch.bitsAgree {c : ControlState} (h : AtFetch c) : BitsAgree c where
  iff := h.iff
  inhibit hi := by simp [h.inhibit] at hi
  afterPrefix _ := h.halted

/-! ### Interrupts and the idle step -/

/-- A push, a jump and the status `Normal` keep the invariant of the state the acceptance makes (R421 to R423, R425). -/
theorem inv_takeInterrupt {target : Word} {t : Nat} (hm : s.mem.wf = true) (hb : BitsAgree (control s))
    (hf : s.fault = none) : Inv (takeInterrupt target t s) := by
  have hc : control (takeInterrupt target t s) = control s := control_push16 s s.pc
  exact inv_of_running (wf_push16 s s.pc hm) (hc ▸ hb) ((congrArg ControlState.fault hc).trans hf) nofun

/-- An accepted NMI clears IFF1, the EI inhibit and the halt (R421). -/
theorem inv_acceptNmi (hm : s.mem.wf = true) (hf : s.fault = none) : Inv (acceptNmi s) :=
  inv_takeInterrupt hm ⟨nofun, nofun, fun _ => rfl⟩ hf

/-- Every maskable acceptance clears IFF1, the EI inhibit and the halt before its push (R425). -/
theorem bitsAgree_maskableEffects : BitsAgree (control (maskableEffects s)) := ⟨nofun, nofun, fun _ => rfl⟩

theorem inv_acceptMode0 (h : Inv s) (hf : s.fault = none) : Inv (acceptMode0 s) := by
  unfold acceptMode0
  split
  · exact inv_takeInterrupt h.mem bitsAgree_maskableEffects hf
  · exact inv_of_raised h.mem h.bitsAgree _

theorem inv_acceptMode2 (hm : s.mem.wf = true) (hf : s.fault = none) : Inv (acceptMode2 s) := by
  have hc : control (acceptMode2 s) = control (maskableEffects s) :=
    (control_memRead16 _ _).trans (control_push16 _ _)
  have hmem : (acceptMode2 s).mem = (push16 s.pc (maskableEffects s)).mem := memRead16_mem _ _
  refine inv_of_running ?_ (hc ▸ bitsAgree_maskableEffects) ((congrArg ControlState.fault hc).trans hf) nofun
  rw [hmem]
  exact wf_push16 _ _ hm

theorem inv_acceptMaskable (h : Inv s) (hf : s.fault = none) : Inv (acceptMaskable s) := by
  unfold acceptMaskable
  split
  · exact inv_acceptMode0 h hf
  · exact inv_takeInterrupt h.mem bitsAgree_maskableEffects hf
  · exact inv_acceptMode2 h.mem hf

/-- The idle step comes after the boundary has cleared the one-boundary bits (R410, R412). -/
theorem inv_idleStep (h : Inv s) (hf : s.fault = none) : Inv (idleStep (passBoundary s)) :=
  inv_of_running h.mem ⟨h.iff, nofun, nofun⟩ hf nofun

/-! ### The fetch and the instruction -/

theorem atFetch_passBoundary (h : Inv s) (hh : s.halted = false) : AtFetch (control (passBoundary s)) :=
  ⟨h.iff, rfl, rfl, hh⟩

/-- A fetch does not write the control state (R106). -/
theorem control_fetch (s : State) : control (fetch s).state = control s := by
  have h := fetch_keeps s
  simp [control, h.alt, h.i, h.r, h.iff1, h.iff2, h.im, h.intLine, h.intData, h.nmiPending, h.eiInhibit, h.afterPrefix,
    h.halted, h.fault, h.params]

/-- No instruction writes the fault report (R404). -/
theorem controlAfter_fault (i : Instr) (s : State) : (controlAfter i s).fault = s.fault := by
  unfold controlAfter
  split <;> rfl

/-- Each writer of the flip-flops and the one-boundary bits keeps them in agreement: EI sets both flip-flops with its
inhibit, DI clears both, a return copies IFF2 to IFF1, HALT and `ignoredIndexPrefix` set one bit where none was set. -/
theorem bitsAgree_controlAfter (h : AtFetch (control s)) : BitsAgree (controlAfter i s) := by
  obtain ⟨hiff, hei, hap, hh⟩ := h
  simp only [control] at hiff hei hap hh
  unfold controlAfter
  split
  all_goals constructor <;> simp +contextual [counted, control, hiff, hei, hap, hh]

/-- An instruction executed in a state it is fetched in ends in a state that meets the invariant. -/
theorem inv_exec (hm : s.mem.wf = true) (hc : AtFetch (control s)) (hf : s.fault = none) (h : exec i s = .next u) :
    Inv u := by
  have hu := control_of_exec h
  obtain ⟨hstatus, hform, -⟩ := leavesMem_of_exec h
  have hfault : u.fault = s.fault := (congrArg ControlState.fault hu).trans (controlAfter_fault i s)
  exact inv_of_running (hform hm) (hu ▸ bitsAgree_controlAfter hc) (hfault.trans hf) hstatus

/-- A fetch and what follows it, an instruction or a decode error, end in a state that meets the invariant (R401, R410). -/
theorem inv_fetchAndExecute (hm : s.mem.wf = true) (hc : AtFetch (control s)) (hf : s.fault = none)
    (h : fetchAndExecute s = .next u) : Inv u := by
  have hk := fetch_keeps s
  have hm' : (fetch s).state.mem.wf = true := hk.mem ▸ hm
  have hc' : AtFetch (control (fetch s).state) := control_fetch s ▸ hc
  simp only [fetchAndExecute] at h
  split at h
  · exact inv_exec hm' hc' (hk.fault.trans hf) h
  · obtain rfl := Host.Outcome.next.inj h
    exact inv_of_raised hm' hc'.bitsAgree _

/-- Settles O14, by what a step can do (`step_cases`): take an interrupt, idle, or fetch. -/
theorem stepKeepsInvariant : Obligations.StepKeepsInvariant := by
  unfold Obligations.StepKeepsInvariant
  intro s u hs h
  obtain ⟨ha, hf⟩ := steppable_of_step s h
  have hcalls : Inv { s with calls := [] } := ⟨hs.mem, hs.iff, hs.inhibit, hs.afterPrefix, hs.status⟩
  obtain ⟨-, hstep⟩ | ⟨-, -, hstep⟩ | ⟨-, -, -, hstep⟩ | ⟨-, -, hh, hstep⟩ := step_cases s ha hf
  all_goals rw [hstep] at h
  · obtain rfl := Host.Outcome.next.inj h
    exact inv_acceptNmi hs.mem hf
  · obtain rfl := Host.Outcome.next.inj h
    exact inv_acceptMaskable hcalls hf
  · obtain rfl := Host.Outcome.next.inj h
    exact inv_idleStep hs hf
  · exact inv_fetchAndExecute (s := passBoundary s) hs.mem (atFetch_passBoundary hs hh) hf h

end Sys2Proof.Machine
end

section
/-! PROOFS. The decoder and the encoder against each other (30_encoding.md R90 to R107), with the settlements of O1 to O4. The
bytes of an instruction select one of five maps (`MapOf`), and a map is a table, checked cell by cell. -/

namespace Sys2Proof

open Machine
open Claims

/-! ### Opcode bytes and their fields -/

set_option maxRecDepth 4000 in
/-- A byte is its three fields (R92). -/
theorem opXYZ_fields (op : Byte) : opXYZ (fieldX op) (fieldY op) (fieldZ op) = op := by
  revert op
  exact forall_byte (by decide)

theorem exists_opXYZ (op : Byte) : ∃ x y z, op = opXYZ x y z := ⟨_, _, _, (opXYZ_fields op).symm⟩

@[simp] theorem fieldX_opXPQZ (x p : Code2) (q : Bool) (z : Code3) : fieldX (opXPQZ x p q z) = x := by
  cases x <;> cases p <;> cases q <;> cases z <;> rfl
@[simp] theorem fieldP_opXPQZ (x p : Code2) (q : Bool) (z : Code3) : fieldP (opXPQZ x p q z) = p := by
  cases x <;> cases p <;> cases q <;> cases z <;> rfl
@[simp] theorem fieldQ_opXPQZ (x p : Code2) (q : Bool) (z : Code3) : fieldQ (opXPQZ x p q z) = q := by
  cases x <;> cases p <;> cases q <;> cases z <;> rfl
@[simp] theorem fieldZ_opXPQZ (x p : Code2) (q : Bool) (z : Code3) : fieldZ (opXPQZ x p q z) = z := by
  cases x <;> cases p <;> cases q <;> cases z <;> rfl

@[simp] theorem Reg8.ofCode_k6 : Reg8.ofCode .k6 = none := rfl

/-! ### Which opcode bytes are prefixes (R91) -/

@[simp] theorem isPrefixByte_opXYZ_k1 (y z : Code3) : isPrefixByte (opXYZ .k1 y z) = false := by
  cases y <;> cases z <;> rfl
@[simp] theorem isPrefixByte_opXYZ_k2 (y z : Code3) : isPrefixByte (opXYZ .k2 y z) = false := by
  cases y <;> cases z <;> rfl
@[simp] theorem isPrefixByte_opXPQZ_k1 (x p : Code2) (q : Bool) : isPrefixByte (opXPQZ x p q .k1) = false := by
  cases x <;> cases p <;> cases q <;> rfl
@[simp] theorem isPrefixByte_opXPQZ_k5 (p : Code2) (q : Bool) :
    isPrefixByte (opXPQZ .k3 p q .k5) = (q && p != .k0) := by
  cases p <;> cases q <;> rfl

@[simp] theorem opXYZ_eq_cb (x : Code2) (y z : Code3) : opXYZ x y z = 0xCB#8 ↔ x = .k3 ∧ y = .k1 ∧ z = .k3 := by
  cases x <;> cases y <;> cases z <;> decide
@[simp] theorem opXPQZ_k0_ne_cb (p : Code2) (q : Bool) (z : Code3) : opXPQZ .k0 p q z ≠ 0xCB#8 := by
  cases p <;> cases q <;> cases z <;> decide

/-- A byte that is none of the four prefixes (R91). -/
theorem isPrefixByte_eq_false {b : Byte} :
    isPrefixByte b = false ↔ b ≠ 0xCB#8 ∧ b ≠ 0xED#8 ∧ b ≠ 0xDD#8 ∧ b ≠ 0xFD#8 := by
  simp [isPrefixByte, and_assoc]

@[simp] theorem IndexReg.byte_ne_cb (xy : IndexReg) : xy.byte ≠ 0xCB#8 := by cases xy <;> decide
@[simp] theorem IndexReg.byte_ne_ed (xy : IndexReg) : xy.byte ≠ 0xED#8 := by cases xy <;> decide
@[simp] theorem IndexReg.byte_eq_or (xy : IndexReg) : xy.byte = 0xDD#8 ∨ xy.byte = 0xFD#8 := by cases xy <;> decide

/-! ### The map an instruction is decoded by -/

/-- The five maps, by the first two bytes (R91, R106). -/
inductive MapOf : Byte → Byte → Prop
  | cb (b1 : Byte) : MapOf 0xCB#8 b1
  | ed (b1 : Byte) : MapOf 0xED#8 b1
  | indexCb (xy : IndexReg) : MapOf xy.byte 0xCB#8
  | index (xy : IndexReg) {b1 : Byte} (h : b1 ≠ 0xCB#8) : MapOf xy.byte b1
  | main {b0 : Byte} (b1 : Byte) (h : isPrefixByte b0 = false) : MapOf b0 b1

/-- Every instruction is decoded by one of the five maps. -/
theorem mapOf (b0 b1 : Byte) : MapOf b0 b1 := by
  have index (xy : IndexReg) : MapOf xy.byte b1 := by
    by_cases h : b1 = 0xCB#8
    · exact h ▸ .indexCb xy
    · exact .index xy h
  by_cases hp : isPrefixByte b0 = true
  · simp only [isPrefixByte, Bool.or_eq_true, beq_iff_eq] at hp
    obtain ((rfl | rfl) | rfl) | rfl := hp
    · exact .cb b1
    · exact .ed b1
    · exact index .ix
    · exact index .iy
  · exact .main b1 (by simpa using hp)

@[simp] theorem decodeBytes_cb (b1 b2 b3 : Byte) : decodeBytes 0xCB#8 b1 b2 b3 = decodeCB b1 := rfl

@[simp] theorem decodeBytes_ed (b1 b2 b3 : Byte) : decodeBytes 0xED#8 b1 b2 b3 = decodeED b1 b2 b3 := rfl

@[simp] theorem decodeBytes_indexCb (xy : IndexReg) (d op : Byte) :
    decodeBytes xy.byte 0xCB#8 d op = decodeXYCB xy d op := by
  cases xy <;> rfl

theorem decodeBytes_index (xy : IndexReg) {b1 : Byte} (b2 b3 : Byte) (h : b1 ≠ 0xCB#8) :
    decodeBytes xy.byte b1 b2 b3 = decodeIndexed xy b1 b2 b3 := by
  cases xy <;> simp [decodeBytes, IndexReg.byte, h]

/-! ### The length of a cell, and whether it is documented, whatever the operand bytes (R90, R107) -/

theorem decodeMain_row (op b1 b2 : Byte) :
    (decodeMain op b1 b2).length = (decodeMain op 0#8 0#8).length ∧ (decodeMain op b1 b2).documented = true := by
  obtain ⟨x, y, z, rfl⟩ := exists_opXYZ op
  cases x <;> cases y <;> cases z <;> exact ⟨rfl, rfl⟩

theorem decodeED_row (op b2 b3 : Byte) :
    (decodeED op b2 b3).length = (decodeED op 0#8 0#8).length ∧
      (decodeED op b2 b3).documented = (decodeED op 0#8 0#8).documented := by
  obtain ⟨x, y, z, rfl⟩ := exists_opXYZ op
  cases x <;> cases y <;> cases z <;> exact ⟨rfl, rfl⟩

theorem decodeIndexed_row (xy : IndexReg) (op b2 b3 : Byte) :
    (decodeIndexed xy op b2 b3).length = (decodeIndexed .ix op 0#8 0#8).length ∧
      (decodeIndexed xy op b2 b3).documented = (decodeIndexed .ix op 0#8 0#8).documented := by
  obtain ⟨x, y, z, rfl⟩ := exists_opXYZ op
  cases x <;> cases y <;> cases z <;> exact ⟨rfl, rfl⟩

theorem decodeXYCB_row (xy : IndexReg) (d op : Byte) :
    (decodeXYCB xy d op).documented = (decodeXYCB .ix 0#8 op).documented := by
  obtain ⟨x, y, z, rfl⟩ := exists_opXYZ op
  cases x <;> cases y <;> cases z <;> rfl

/-! ### Every cell of a map stands for its bytes -/

/-- The instruction is well formed, and the bytes start with its encoding. -/
def StandsFor (i : Instr) (bytes : List Byte) : Prop := i.wf = true ∧ encode i = bytes.take i.length

/-- The bytes of a word, low byte first, come back from the word (R64). -/
theorem immBytes_leWord (lo hi : Byte) : immBytes (leWord lo hi) = [lo, hi] := by
  simp [immBytes, leWord]

/-- An opcode before the bytes of a word, as a cell with a word operand encodes it (R93). -/
theorem append_immBytes_leWord (opcode : List Byte) (lo hi : Byte) :
    opcode ++ immBytes (leWord lo hi) = opcode ++ [lo, hi] := by
  rw [immBytes_leWord]

theorem standsFor_decodeCB (op b2 b3 : Byte) : StandsFor (decodeCB op) [0xCB#8, op, b2, b3] := by
  obtain ⟨x, y, z, rfl⟩ := exists_opXYZ op
  cases x <;> cases y <;> cases z <;> exact ⟨rfl, rfl⟩

theorem standsFor_decodeXYCB (xy : IndexReg) (d op : Byte) :
    StandsFor (decodeXYCB xy d op) [xy.byte, 0xCB#8, d, op] := by
  obtain ⟨x, y, z, rfl⟩ := exists_opXYZ op
  cases x <;> cases y <;> cases z <;> exact ⟨rfl, rfl⟩

/-- The cells of the ED map with a word operand are the columns `LD (nn),rr` and `LD rr,(nn)` (R102). -/
theorem standsFor_decodeED (op b2 b3 : Byte) : StandsFor (decodeED op b2 b3) [0xED#8, op, b2, b3] := by
  obtain ⟨x, y, z, rfl⟩ := exists_opXYZ op
  cases x
  case k1 =>
    cases z
    case k3 => cases y <;> exact ⟨rfl, append_immBytes_leWord [_, _] b2 b3⟩
    all_goals cases y <;> exact ⟨rfl, rfl⟩
  all_goals cases y <;> cases z <;> exact ⟨rfl, rfl⟩

/-- The cells of the DD/FD map with a word operand are 21, 22 and 2A (R103). -/
theorem standsFor_decodeIndexed (xy : IndexReg) (op b2 b3 : Byte) :
    StandsFor (decodeIndexed xy op b2 b3) [xy.byte, op, b2, b3] := by
  obtain ⟨x, y, z, rfl⟩ := exists_opXYZ op
  cases x
  case k0 =>
    cases z
    case k1 =>
      cases y
      case k4 => exact ⟨rfl, append_immBytes_leWord [_, _] b2 b3⟩
      all_goals exact ⟨rfl, rfl⟩
    case k2 =>
      cases y
      case k4 | k5 => exact ⟨rfl, append_immBytes_leWord [_, _] b2 b3⟩
      all_goals exact ⟨rfl, rfl⟩
    all_goals cases y <;> exact ⟨rfl, rfl⟩
  all_goals cases y <;> cases z <;> exact ⟨rfl, rfl⟩

/-- The cells of the unprefixed map with a word operand: `LD rr,nn`, the loads at nn, and the jumps and calls; the prefixes
do not come here (R100). -/
theorem standsFor_decodeMain {op : Byte} (b1 b2 b3 : Byte) (h : isPrefixByte op = false) :
    StandsFor (decodeMain op b1 b2) [op, b1, b2, b3] := by
  obtain ⟨x, y, z, rfl⟩ := exists_opXYZ op
  cases x
  case k0 =>
    cases z
    case k1 =>
      cases y
      case k0 | k2 | k4 | k6 => exact ⟨rfl, append_immBytes_leWord [_] b1 b2⟩
      all_goals exact ⟨rfl, rfl⟩
    case k2 =>
      cases y
      case k4 | k5 | k6 | k7 => exact ⟨rfl, append_immBytes_leWord [_] b1 b2⟩
      all_goals exact ⟨rfl, rfl⟩
    all_goals cases y <;> exact ⟨rfl, rfl⟩
  case k3 =>
    cases z
    case k2 | k4 => cases y <;> exact ⟨rfl, append_immBytes_leWord [_] b1 b2⟩
    case k3 =>
      cases y
      case k0 => exact ⟨rfl, append_immBytes_leWord [_] b1 b2⟩
      case k1 => cases h
      all_goals exact ⟨rfl, rfl⟩
    case k5 =>
      cases y
      case k1 => exact ⟨rfl, append_immBytes_leWord [_] b1 b2⟩
      case k3 | k5 | k7 => cases h
      all_goals exact ⟨rfl, rfl⟩
    all_goals cases y <;> exact ⟨rfl, rfl⟩
  all_goals cases y <;> cases z <;> exact ⟨rfl, rfl⟩

/-- Settles O3, map by map. -/
theorem everyByteSequenceDecodes : Obligations.EveryByteSequenceDecodes := by
  unfold Obligations.EveryByteSequenceDecodes
  intro b0 b1 b2 b3
  change StandsFor (decodeBytes b0 b1 b2 b3) [b0, b1, b2, b3]
  cases mapOf b0 b1 with
  | cb => exact standsFor_decodeCB b1 b2 b3
  | ed => exact standsFor_decodeED b1 b2 b3
  | indexCb xy =>
    rw [decodeBytes_indexCb]
    exact standsFor_decodeXYCB xy b2 b3
  | index xy h =>
    rw [decodeBytes_index xy b2 b3 h]
    exact standsFor_decodeIndexed xy b1 b2 b3
  | main _ h =>
    rw [decodeBytes_plain b1 b2 b3 h]
    exact standsFor_decodeMain b1 b2 b3 h

/-! ### The undocumented cells of each map (R107) -/

set_option maxRecDepth 4000 in
/-- `SLL` is the row CB 30 to 37 (R107). -/
theorem decodeCB_documented (op : Byte) :
    (decodeCB op).documented = false ↔ 0x30 ≤ op.toNat ∧ op.toNat ≤ 0x37 := by
  revert op
  exact forall_byte (by decide)

set_option maxRecDepth 4000 in
/-- The XYCB cells with z ≠ 6, and `SLL` (R105). -/
theorem decodeXYCB_documented (xy : IndexReg) (d op : Byte) :
    (decodeXYCB xy d op).documented = false ↔ op.toNat % 8 ≠ 6 ∨ 0x30 ≤ op.toNat ∧ op.toNat ≤ 0x37 := by
  rw [decodeXYCB_row]
  revert op
  exact forall_byte (by decide)

set_option maxRecDepth 4000 in
/-- Settles O4, map by map: a cell is documented or not whatever its operand bytes, so a map is 256 cells. -/
theorem undocumentedEncodings : Obligations.UndocumentedEncodings := by
  unfold Obligations.UndocumentedEncodings
  intro b0 b1 b2 b3
  cases mapOf b0 b1 with
  | cb => simp [decodeCB_documented]
  | ed =>
    simp only [decodeBytes_ed, (decodeED_row b1 b2 b3).2, BitVec.reduceEq, true_and, false_and, false_or, or_false]
    revert b1
    exact forall_byte (by decide)
  | indexCb xy => simp [decodeXYCB_documented]
  | index xy h =>
    simp only [decodeBytes_index xy b2 b3 h, (decodeIndexed_row xy b1 b2 b3).2, xy.byte_ne_cb, xy.byte_ne_ed,
      xy.byte_eq_or, h, true_and, false_and, false_or]
    clear h
    revert b1
    exact forall_byte (by decide)
  | main _ h =>
    rw [decodeBytes_plain b1 b2 b3 h, (decodeMain_row b0 b1 b2).2]
    simp [isPrefixByte_eq_false.1 h]

/-! ### Decoding a list of bytes -/

set_option maxRecDepth 4000 in
/-- The cells of the DD/FD map without an index meaning (R103). -/
theorem decodeIndexed_zero_of_no_meaning (xy : IndexReg) (op : Byte) :
    hasIndexMeaning op = false → decodeIndexed xy op 0#8 0#8 = .ignoredIndexPrefix xy := by
  revert op
  cases xy <;> exact forall_byte (by decide)

set_option maxRecDepth 4000 in
/-- A byte with an index meaning makes an instruction of two bytes or more (R103). -/
theorem two_le_length_decodeIndexed (op : Byte) :
    hasIndexMeaning op = true → op ≠ 0xCB#8 → 2 ≤ (decodeIndexed .ix op 0#8 0#8).length := by
  revert op
  exact forall_byte (by decide)

/-- Before a byte without an index meaning 0xDD and 0xFD are ignored (R103, R104). -/
theorem decodeIndexed_of_no_meaning (xy : IndexReg) {op : Byte} (b2 b3 : Byte) (h : hasIndexMeaning op = false) :
    decodeIndexed xy op b2 b3 = .ignoredIndexPrefix xy := by
  have hz := decodeIndexed_zero_of_no_meaning xy op h
  rw [decodeIndexed_two xy op b2 b3 (by simp [hz, Instr.length]), hz]

/-- Decode reads the bytes of the instruction it finds, whatever they are; of an ignored 0xDD or 0xFD it reads one
more (R90, R104, R106). -/
theorem bytesRead_eq_length {b0 b1 b2 b3 : Byte} (h : ∀ xy, decodeBytes b0 b1 b2 b3 ≠ .ignoredIndexPrefix xy) :
    bytesRead b0 b1 = (decodeBytes b0 b1 b2 b3).length := by
  cases mapOf b0 b1 with
  | cb => simp [bytesRead_prefix _ isPrefixByte_cb, decodeCB_length]
  | ed =>
    have hl := decodeED_length b1
    simp only [bytesRead_prefix _ isPrefixByte_ed, decodeBytes_ed, (decodeED_row b1 b2 b3).1]
    omega
  | indexCb xy => simp [bytesRead_prefix _ (isPrefixByte_indexByte xy), decodeXYCB_length]
  | index xy hb =>
    rw [decodeBytes_index xy b2 b3 hb] at h ⊢
    have hm : hasIndexMeaning b1 = true :=
      eq_true_of_ne_false fun hm => h xy (decodeIndexed_of_no_meaning xy b2 b3 hm)
    rw [bytesRead_prefix _ (isPrefixByte_indexByte xy), decodeBytes_index xy 0#8 0#8 hb,
      (decodeIndexed_row xy b1 b2 b3).1, (decodeIndexed_row xy b1 0#8 0#8).1]
    exact max_eq_right (two_le_length_decodeIndexed b1 hm hb)
  | main _ hp => rw [bytesRead_plain b1 hp, decodeBytes_plain b1 b2 b3 hp, (decodeMain_row b0 b1 b2).1]

/-- The instruction at the front of a list of bytes, a missing byte read as 0. -/
def decodeFront (l : List Byte) : Instr := decodeBytes (l.getD 0 0#8) (l.getD 1 0#8) (l.getD 2 0#8) (l.getD 3 0#8)

/-- A list long enough for the instruction at its front decodes to it, with the bytes after it. -/
theorem decode_of_decodeFront {i : Instr} {l : List Byte} (hd : decodeFront l = i)
    (hi : ∀ xy, i ≠ .ignoredIndexPrefix xy) (hl : i.length ≤ l.length) : decode l = .instr i (l.drop i.length) := by
  subst hd
  have hr := bytesRead_eq_length hi
  have hne : l ≠ [] := by
    rintro rfl
    exact absurd hl (by decide)
  unfold decode
  rw [if_neg hne, if_neg]
  · rfl
  · exact hr ▸ Nat.not_lt.2 hl

/-- The encoder writes as many bytes as the table gives the row (R90, R91). -/
theorem length_encode (i : Instr) : (encode i).length = i.length := by cases i <;> rfl

theorem decodeFront_cb (op : Byte) (rest : List Byte) : decodeFront (0xCB#8 :: op :: rest) = decodeCB op := rfl

theorem decodeFront_ed (op : Byte) (rest : List Byte) :
    decodeFront (0xED#8 :: op :: rest) = decodeED op (rest.getD 0 0#8) (rest.getD 1 0#8) := rfl

theorem decodeFront_indexCb (xy : IndexReg) (d op : Byte) (rest : List Byte) :
    decodeFront (xy.byte :: 0xCB#8 :: d :: op :: rest) = decodeXYCB xy d op := decodeBytes_indexCb xy d op

theorem decodeFront_index (xy : IndexReg) {op : Byte} (rest : List Byte) (h : op ≠ 0xCB#8) :
    decodeFront (xy.byte :: op :: rest) = decodeIndexed xy op (rest.getD 0 0#8) (rest.getD 1 0#8) :=
  decodeBytes_index xy _ _ h

theorem decodeFront_main {op : Byte} (rest : List Byte) (h : isPrefixByte op = false) :
    decodeFront (op :: rest) = decodeMain op (rest.getD 0 0#8) (rest.getD 1 0#8) := decodeBytes_plain _ _ _ h

/-- An encoding decodes to its instruction, map by map: the last case is the unprefixed one. A row with a fixed opcode is one
cell; in the others the code tables and the bytes of a word come back. Well-formedness keeps the second encodings of NEG,
RETN and IM off the cells of the first (R251, R253, R318), and a move of halves off the cells that name no half (R158). -/
theorem decodeFront_encode {i : Instr} (rest : List Byte) (hwf : i.wf = true) (hi : ∀ xy, i ≠ .ignoredIndexPrefix xy) :
    decodeFront (encode i ++ rest) = i := by
  cases i
  case ignoredIndexPrefix xy => exact absurd rfl (hi xy)
  case rlcR | rrcR | rlR | rrR | slaR | sraR | sllR | srlR | rlcMHl | rrcMHl | rlMHl | rrMHl | slaMHl | sraMHl | sllMHl |
      srlMHl | bitR | bitMHl | resR | resMHl | setR | setMHl =>
    simp [encode, encCB, decodeFront_cb, decodeCB, Reg8.ofCode_code, rotOnReg, rotOnMHl]
  case rlcMXyd | rrcMXyd | rlMXyd | rrMXyd | slaMXyd | sraMXyd | sllMXyd | srlMXyd | rlcMXydR | rrcMXydR | rlMXydR |
      rrMXydR | slaMXydR | sraMXydR | sllMXydR | srlMXydR | bitMXyd | bitMXydAlias | resMXyd | resMXydR | setMXyd |
      setMXydR =>
    simp [encode, encXYCB, decodeFront_indexCb, decodeXYCB, Reg8.ofCode_code, rotOnMXyd, rotOnMXydR]
  case negAlias y =>
    cases y
    case k0 => cases hwf
    all_goals exact decodeFront_ed _ rest
  case retnAlias y =>
    cases y
    case k0 | k1 => cases hwf
    all_goals exact decodeFront_ed _ rest
  case imAlias y =>
    cases y
    case k0 | k2 | k3 => cases hwf
    all_goals exact decodeFront_ed _ rest
  case nopEd80 p k | nopEdA4 p k => cases p <;> cases k <;> exact decodeFront_ed _ rest
  case nopEd77 q => cases q <;> exact decodeFront_ed _ rest
  case ldi | cpi | ini | outi | ldd | cpd | ind | outd | ldir | cpir | inir | otir | lddr | cpdr | indr | otdr | neg |
      retn | reti | im0 | im1 | im2 | ldIA | ldRA | ldAI | ldAR | rrd | rld | inFC | outC0 =>
    exact decodeFront_ed _ rest
  case inRC | outCR | sbcHlRr | adcHlRr | ldMNnRr | ldRrMNn | nopEdX0 | nopEdX3 =>
    simp [encode, encED, decodeFront_ed, decodeED, Reg8.ofCode_code, RegPair.ofCode_code, immBytes]
  case incXyh xy h | decXyh xy h | ldXyhN xy h _ | addXyh xy h | adcXyh xy h | subXyh xy h | sbcXyh xy h | andXyh xy h |
      xorXyh xy h | orXyh xy h | cpXyh xy h =>
    cases h <;> exact decodeFront_index xy _ (by decide)
  case ldRMXyd r xy d | ldMXydR xy d r => cases r <;> exact decodeFront_index xy (d :: rest) (by decide)
  case ldRRXyh xy dst src =>
    have hhalf : (dst.isHalf || src.isHalf) = true := hwf
    simp [encode, encXY, decodeFront_index, decodeIndexed, HalfReg.ofCode_code, hhalf]
  case addXyRr | ldXyNn | ldMNnXy | ldXyMNn | incXy | decXy | incMXyd | decMXyd | ldMXydN | addMXyd | adcMXyd | subMXyd |
      sbcMXyd | andMXyd | xorMXyd | orMXyd | cpMXyd | popXy | exMSpXy | pushXy | jpXy | ldSpXy =>
    simp [encode, encXY, decodeFront_index, decodeIndexed, IndexPair.ofCode_code, immBytes, aluOnMXyd]
  case jrCc cc e => cases cc <;> exact decodeFront_main (e :: rest) rfl
  all_goals
    simp [encode, encMain, decodeFront_main, decodeMain, Reg8.ofCode_code, RegPair.ofCode_code, StackPair.ofCode_code,
      Cond.ofCode_code, immBytes, aluOnReg, aluOnMHl, aluOnImm]

/-- Settles O2: the first instruction of a list is found by the bytes decode reads (`decode_of_decodeFront`), and those of an
encoding are its own (`decodeFront_encode`). -/
theorem decodeInvertsEncode : Obligations.DecodeInvertsEncode := by
  unfold Obligations.DecodeInvertsEncode
  refine ⟨fun i rest hwf hi => ?_, fun xy b rest h => ?_⟩
  · rw [decode_of_decodeFront (decodeFront_encode rest hwf hi) hi (by simp [length_encode]), ← length_encode,
      List.drop_left]
  · have hb : b ≠ 0xCB#8 := by
      rintro rfl
      cases h
    have hd (b2 b3 : Byte) : decodeBytes xy.byte b b2 b3 = .ignoredIndexPrefix xy := by
      rw [decodeBytes_index xy b2 b3 hb, decodeIndexed_of_no_meaning xy b2 b3 h]
    have hr : bytesRead xy.byte b = 2 := by
      rw [bytesRead_prefix b (isPrefixByte_indexByte xy), hd]
      rfl
    exact decode_ignored rest hr hd

/-- Settles O1: each word is closed. -/
theorem sampleWordsDecode : Obligations.SampleWordsDecode := by
  unfold Obligations.SampleWordsDecode
  decide

end Sys2Proof
end

section
/-! PROOFS. The step that fetches (60_exceptions.md R401, R410; 30_encoding.md R106): the instruction it runs, the DecodeError
it raises in place of an undocumented one, with the settlements of O5 and O6. -/

namespace Sys2Proof.Machine

open Claims

variable {s : State}

/-- With no interrupt accepted and no halt, a step is the boundary and then the fetch (R410). -/
theorem step_eq_fetchAndExecute (hb : AtBoundary s) (hn : NoAcceptance s) (hh : s.halted = false) :
    step s = fetchAndExecute (passBoundary s) := by
  obtain ⟨ha, hf⟩ := hb
  obtain ⟨hnmi, hint⟩ := hn
  obtain ⟨h, -⟩ | ⟨-, h, -⟩ | ⟨-, -, h, -⟩ | ⟨-, -, -, h⟩ := step_cases s ha hf
  · exact absurd (by simpa [nmiDue] using h) hnmi
  · exact absurd (by simpa [maskableDue, and_assoc] using h) hint
  · exact absurd (hh.symm.trans h) Bool.false_ne_true
  · exact h

/-- The bytes a fetch that finds no handler reports (R401). -/
def Fetched.reported (f : Fetched) : List Byte := faultBytes f.b0 f.b1 f.b2 f.b3

/-- What the fetch of a step finds where the array answers it, after it, and in its report (R106). -/
theorem fetch_passBoundary_plain (h : PlainFetch s) :
    (fetch (passBoundary s)).instr = instrAt s ∧
      (fetch (passBoundary s)).state = { s with eiInhibit := false, afterPrefix := false, calls := fetchReads s } ∧
      (fetch (passBoundary s)).reported =
        [byteAt s 0, byteAt s 1, byteAt s 2, byteAt s 3].take (bytesRead (byteAt s 0) (byteAt s 1)) :=
  fetch_plain (passBoundary s) h

/-- A fetched instruction that has a handler is executed (R410). -/
theorem step_of_hasHandler (hb : AtBoundary s) (hn : NoAcceptance s) (hh : s.halted = false)
    (h : hasHandler (fetch (passBoundary s)).instr s = true) :
    step s = exec (fetch (passBoundary s)).instr (fetch (passBoundary s)).state := by
  rw [step_eq_fetchAndExecute hb hn hh]
  exact if_pos h

/-- A fetched instruction that has none raises DecodeError (R401, R410). -/
theorem step_of_no_handler (hb : AtBoundary s) (hn : NoAcceptance s) (hh : s.halted = false)
    (h : hasHandler (fetch (passBoundary s)).instr s = false) :
    step s = .next (raiseDecodeError (fetch (passBoundary s)).reported (fetch (passBoundary s)).state) := by
  rw [step_eq_fetchAndExecute hb hn hh]
  exact if_neg (ne_true_of_eq_false h)

/-- Settles O5: the step is the fetch and the instruction found, and a plain fetch finds the one its bytes decode to. -/
theorem stepRunsDecodedInstruction : Obligations.StepRunsDecodedInstruction := by
  unfold Obligations.StepRunsDecodedInstruction
  refine ⟨fun s hb hn hh h => step_of_hasHandler hb hn hh h, fun s i hb hn hh hp hi h => ?_⟩
  obtain ⟨hinstr, hstate, -⟩ := fetch_passBoundary_plain hp
  rw [step_of_hasHandler hb hn hh (by rw [hinstr, hi, h]), hinstr, hstate, hi]

/-- A fetch changes the record of accesses and what the host has answered, and nothing else (R106). -/
theorem except_fetch (s : State) : Except [.calls, .hostReplies, .draws] s (fetch s).state := by
  intro f hf
  have hk := fetch_keeps s
  cases f <;> simp [Field.same, peek_congr hk.mem, hk.main, hk.alt, hk.ix, hk.iy, hk.sp, hk.i, hk.iff1, hk.iff2, hk.im,
    hk.intLine, hk.intData, hk.nmiPending, hk.eiInhibit, hk.afterPrefix, hk.halted, hk.fault, hk.params] at hf ⊢

/-- Only an undocumented row lacks a handler, and only under `UNDOC_OPS` = fault (R107, R401). -/
theorem hasHandler_eq_false {i : Instr} :
    hasHandler i s = false ↔ i.documented = false ∧ s.params.undocOps = .fault := by
  cases h : s.params.undocOps <;> simp [hasHandler, h]

/-! ### The bytes of a DecodeError (R401) -/

set_option maxRecDepth 4000 in
theorem decodeED_length_of_undocumented (op : Byte) :
    (decodeED op 0#8 0#8).documented = false → (decodeED op 0#8 0#8).length = 2 := by
  revert op
  exact forall_byte (by decide)

set_option maxRecDepth 4000 in
theorem decodeIndexed_length_of_undocumented (op : Byte) :
    (decodeIndexed .ix op 0#8 0#8).documented = false →
      (decodeIndexed .ix op 0#8 0#8).length = if op = 0x26#8 ∨ op = 0x2E#8 then 3 else 2 := by
  revert op
  exact forall_byte (by decide)

/-- Decode reads the whole of an undocumented instruction: two bytes, three of DD/FD 26 and 2E, four of an XYCB form
(R106, R401, log 11). -/
theorem take_bytesRead_of_undocumented {b0 b1 b2 b3 : Byte} (h : (decodeBytes b0 b1 b2 b3).documented = false) :
    [b0, b1, b2, b3].take (bytesRead b0 b1) =
      if b0 = 0xDD#8 ∨ b0 = 0xFD#8 then
        if b1 = 0xCB#8 then [b0, b1, b2, b3]
        else if b1 = 0x26#8 ∨ b1 = 0x2E#8 then [b0, b1, b2]
        else [b0, b1]
      else [b0, b1] := by
  have hi (xy : IndexReg) : decodeBytes b0 b1 b2 b3 ≠ .ignoredIndexPrefix xy := by
    intro e
    rw [e] at h
    cases h
  rw [bytesRead_eq_length hi]
  cases mapOf b0 b1 with
  | cb => simp [decodeCB_length]
  | ed =>
    rw [decodeBytes_ed, (decodeED_row b1 b2 b3).2] at h
    simp [(decodeED_row b1 b2 b3).1, decodeED_length_of_undocumented b1 h]
  | indexCb xy => simp [decodeXYCB_length]
  | index xy hb =>
    rw [decodeBytes_index xy b2 b3 hb, (decodeIndexed_row xy b1 b2 b3).2] at h
    rw [decodeBytes_index xy b2 b3 hb, (decodeIndexed_row xy b1 b2 b3).1, decodeIndexed_length_of_undocumented b1 h,
      if_pos xy.byte_eq_or, if_neg hb]
    split <;> rfl
  | main _ hp =>
    rw [decodeBytes_plain b1 b2 b3 hp, (decodeMain_row b0 b1 b2).2] at h
    cases h

/-- Settles O6: a step without a handler raises DecodeError (`step_of_no_handler`) after a fetch, of which `fetch_keeps` and
`fetch_calls` say what it does, and of whose report `take_bytesRead_of_undocumented` says which bytes it is. -/
theorem decodeErrorChangesOnlyFault : Obligations.DecodeErrorChangesOnlyFault := by
  unfold Obligations.DecodeErrorChangesOnlyFault
  refine ⟨fun i s => hasHandler_eq_false, fun s hb hn hh hp h => ?_, fun s hb hn hh h => ?_⟩
  · obtain ⟨hinstr, hstate, hbytes⟩ := fetch_passBoundary_plain hp
    rw [step_of_no_handler hb hn hh (hinstr ▸ h), hstate, hbytes,
      take_bytesRead_of_undocumented (hasHandler_eq_false.1 h).1]
    rfl
  · have hk := fetch_keeps (passBoundary s)
    have hsub : [Field.calls, .hostReplies, .draws] ⊆
        [.fault, .eiInhibit, .afterPrefix, .calls, .hostReplies, .draws] := by
      decide
    refine ⟨_, _, step_of_no_handler hb hn hh h, ?_, rfl, hk.eiInhibit, hk.afterPrefix, hk.pc, hk.r, hk.cycles,
      fetch_calls (passBoundary s), fun f hf => ?_⟩
    · exact congrArg (fun pc => some (FaultRecord.decodeError pc _)) hk.pc
    · have hsame := except_fetch (passBoundary s) f fun hm => hf (hsub hm)
      cases f
      case eiInhibit | afterPrefix | fault | calls => exact absurd (by decide) hf
      all_goals exact hsame

end Sys2Proof.Machine
end

section
/-! PROOFS. How a statement about one instruction is put together: its row of the opcode table, the state at its end, and
what the operand operations leave unchanged (10_state.md R20 to R26, 00_scope.md R11, R14; 30_encoding.md R90 to R107). -/

namespace Sys2Proof.Machine

open Claims

variable {i : Instr} {s b : State} {k len t : Nat}

/-! ### Rows of the opcode table -/

/-- The length of a row is that of its encoding (R90, R91). -/
theorem row_of_encode {documented : Bool} {bytes : List Byte} (h : encode i = bytes) (hd : i.documented = documented) :
    Row i documented bytes :=
  ⟨h, by rw [← h, length_encode], fun s => by rw [hasHandler, hd]⟩

theorem pre_eq_byte (xy : IndexReg) : pre xy = xy.byte := by cases xy <;> rfl

theorem halfBits_eq_code (h : Half) : halfBits h = h.code.bits := by cases h <;> rfl

/-! ### The end of an instruction -/

/-- An instruction whose effects are those of `b` at its end: PC past its `len` bytes, `k` M1 fetches and `t` T-states
counted (R14, R25, R30, R470). -/
def completed (k len t : Nat) (b : State) : State :=
  { b with pc := b.pc + BitVec.ofNat 16 len, r := refresh k b.r, cycles := b.cycles + t, status := .normal }

theorem retire_m1 (k len t : Nat) (b : State) : retire len t (m1 k b) = .next (completed k len t b) := rfl

theorem except_refl (fs : List Field) (s : State) : Except fs s s := by
  intro f _
  cases f
  case mem => exact fun _ => rfl
  all_goals rfl

/-- A frame says nothing of the fields every instruction writes at its end. -/
theorem except_end {fs : List Field} {pc : Word} {r : Byte} {cycles : Nat} {status : Status} (h : Except fs s b) :
    Except fs s { b with pc := pc, r := r, cycles := cycles, status := status } := by
  intro f hf
  have hsame := h f hf
  cases f <;> exact hsame

theorem except_completed {fs : List Field} (h : Except fs s b) : Except fs s (completed k len t b) := except_end h

/-- The registers and counters an operand read leaves alone. -/
structure KeepsCore (s b : State) : Prop where
  main : b.main = s.main
  pc : b.pc = s.pc
  r : b.r = s.r
  cycles : b.cycles = s.cycles

theorem keepsCore_refl (s : State) : KeepsCore s s := ⟨rfl, rfl, rfl, rfl⟩

theorem keepsCore_memRead (s : State) (a : Word) : KeepsCore s (memRead s a).2 :=
  ⟨memRead_main s a, memRead_pc s a, memRead_r s a, memRead_cycles s a⟩

theorem ended_completed (hpc : b.pc = s.pc) (hr : b.r = s.r) (hc : b.cycles = s.cycles) :
    Ended (s.pc + BitVec.ofNat 16 len) k t s (completed k len t b) := by
  have hcounted : Counted k b (completed k len t b) := ⟨refresh_mod k b.r, refresh_bit7 k b.r⟩
  rw [← hpc]
  exact ⟨rfl, by rwa [Counted, ← hr], congrArg (· + t) hc, rfl⟩

/-! ### What an operand write changes -/

theorem except_setReg (s : State) (q : Reg8) (v : Byte) : Except [.main] s (setReg q v s) := by
  intro f hf
  cases f <;> simp [Field.same, peek] at hf ⊢

/-- I written, and nothing else (R156). -/
theorem except_i (s : State) (v : Byte) : Except [.i] s { s with i := v } := by
  intro f hf
  cases f <;> simp [Field.same, peek] at hf ⊢

theorem regsExcept_setReg (s : State) (q : Reg8) (v : Byte) : RegsExcept [q] s (setReg q v s) :=
  fun p hp => Regs.get_set_of_ne s.main q p v (by simpa using hp)

theorem stores1_memWrite (s : State) (a : Word) (v : Byte) : Stores1 a v s (memWrite s a v) :=
  ⟨memWrite_calls s a v, peek_memWrite s a v⟩

theorem flagsAre_putFlags (s : State) (mask : Byte) (b : FlagBits) : FlagsAre mask b s (putFlags mask b s) :=
  ⟨putFlags_exact s mask b, putFlags_any s mask b⟩

/-- A byte compared with 0 as a byte and as a number. -/
theorem beq_zero_eq_decide_toNat (v : Byte) : (v == 0#8) = decide (v.toNat = 0) := by
  rw [Bool.eq_iff_iff, beq_iff_eq, decide_eq_true_eq, BitVec.toNat_eq]
  rfl

/-! ### Index registers and their halves (R21, R23) -/

theorem getXy_setXy_of_ne (s : State) {xy o : IndexReg} (w : Word) (h : o ≠ xy) : getXy o (setXy xy w s) = getXy o s := by
  cases xy <;> cases o
  case ix.ix | iy.iy => exact absurd rfl h
  all_goals rfl

@[simp] theorem halfOf_withHalf (h : Half) (v : Byte) (w : Word) : halfOf h (withHalf h v w) = v := by
  cases h <;> simp [halfOf, withHalf]

theorem halfOf_withHalf_of_ne {h g : Half} (v : Byte) (w : Word) (hg : g ≠ h) : halfOf g (withHalf h v w) = halfOf g w := by
  cases h <;> cases g
  case high.high | low.low => exact absurd rfl hg
  all_goals simp [halfOf, withHalf]

@[simp] theorem getHalf_setHalf (s : State) (xy : IndexReg) (h : Half) (v : Byte) :
    getHalf xy h (setHalf xy h v s) = v := by
  rw [getHalf, setHalf, getXy_setXy, halfOf_withHalf]

theorem getHalf_setHalf_of_ne (s : State) (xy : IndexReg) {h g : Half} (v : Byte) (hg : g ≠ h) :
    getHalf xy g (setHalf xy h v s) = getHalf xy g s := by
  rw [getHalf, setHalf, getXy_setXy, halfOf_withHalf_of_ne v _ hg, getHalf]

theorem getXy_setHalf_of_ne (s : State) {xy o : IndexReg} (h : Half) (v : Byte) (ho : o ≠ xy) :
    getXy o (setHalf xy h v s) = getXy o s :=
  getXy_setXy_of_ne s _ ho

theorem except_setHalf (s : State) (xy : IndexReg) (h : Half) (v : Byte) :
    Except [.ix, .iy] s (setHalf xy h v s) := by
  intro f hf
  cases f <;> simp [Field.same, peek] at hf ⊢

@[simp] theorem getXy_setReg (s : State) (xy : IndexReg) (q : Reg8) (v : Byte) : getXy xy (setReg q v s) = getXy xy s := by
  cases xy <;> rfl

@[simp] theorem getHalf_setReg (s : State) (xy : IndexReg) (h : Half) (q : Reg8) (v : Byte) :
    getHalf xy h (setReg q v s) = getHalf xy h s := by
  rw [getHalf, getXy_setReg, getHalf]

@[simp] theorem getXy_completed (xy : IndexReg) : getXy xy (completed k len t b) = getXy xy b := by cases xy <;> rfl

@[simp] theorem getHalf_completed (xy : IndexReg) (h : Half) : getHalf xy h (completed k len t b) = getHalf xy h b := by
  rw [getHalf, getXy_completed, getHalf]

@[simp] theorem getHalfReg_completed (xy : IndexReg) (q : HalfReg) :
    getHalfReg xy q (completed k len t b) = getHalfReg xy q b := by
  cases q
  case xyh | xyl => exact getHalf_completed xy _
  all_goals rfl

@[simp] theorem getHalfReg_setHalfReg (s : State) (xy : IndexReg) (q : HalfReg) (v : Byte) :
    getHalfReg xy q (setHalfReg xy q v s) = v := by
  cases q <;> simp [getHalfReg, setHalfReg, Regs.set]

theorem getHalfReg_setHalfReg_of_ne (s : State) (xy : IndexReg) {p q : HalfReg} (v : Byte) (h : q ≠ p) :
    getHalfReg xy q (setHalfReg xy p v s) = getHalfReg xy q s := by
  cases p <;> cases q
  case b.b | c.c | d.d | e.e | xyh.xyh | xyl.xyl | a.a => exact absurd rfl h
  all_goals simp [getHalfReg, setHalfReg, Regs.set, getHalf_setHalf_of_ne]

theorem getXy_setHalfReg_of_ne (s : State) {xy o : IndexReg} (q : HalfReg) (v : Byte) (h : o ≠ xy) :
    getXy o (setHalfReg xy q v s) = getXy o s := by
  cases q
  case xyh | xyl => exact getXy_setHalf_of_ne s _ v h
  all_goals exact getXy_setReg s o _ v

/-- H, L and F are no operand of a form with index halves (R94, R158). -/
theorem setHalfReg_main_h_l_f (s : State) (xy : IndexReg) (q : HalfReg) (v : Byte) :
    (setHalfReg xy q v s).main.h = s.main.h ∧ (setHalfReg xy q v s).main.l = s.main.l ∧
      (setHalfReg xy q v s).main.f = s.main.f := by
  cases q <;> simp [setHalfReg, Regs.set]

theorem except_setHalfReg (s : State) (xy : IndexReg) (q : HalfReg) (v : Byte) :
    Except [.main, .ix, .iy] s (setHalfReg xy q v s) := by
  intro f hf
  cases f <;> simp [Field.same, peek] at hf ⊢

end Sys2Proof.Machine
end

section
/-! PROOFS. The 8-bit load group (40_load8.md R140 to R159), with the settlements of O25 to O28. One lemma for each kind of
instruction says what every instruction of that kind does: it writes a register or a half of an index register, stores a
byte, or loads A from I or R. -/

namespace Sys2Proof.Machine

open Claims

variable {i : Instr} {s b : State} {k len t : Nat} {v : Byte}

/-! ### The kinds of instruction -/

/-- An instruction that writes one 8-bit register after its operand was read. -/
theorem loads_of_setReg {q : Reg8} (hb : KeepsCore s b) (h : exec i s = retire len t (m1 k (setReg q v b))) :
    ∃ u, exec i s = .next u ∧ u.main.get q = v ∧ RegsExcept [q] s u ∧ NoFlags s u ∧
      Ended (s.pc + BitVec.ofNat 16 len) k t s u ∧ Except [.main] b u := by
  obtain ⟨hmain, hpc, hr, hc⟩ := hb
  rw [retire_m1] at h
  refine ⟨_, h, Regs.get_set_self b.main q v, ?_, ?_, ended_completed hpc hr hc, except_completed (except_setReg b q v)⟩
  · rw [RegsExcept, ← hmain]
    exact regsExcept_setReg b q v
  · rw [NoFlags, ← hmain]
    exact Regs.set_f b.main q v

/-- An instruction that loads one 8-bit register from memory. -/
theorem loads_of_memRead {q : Reg8} {a : Word}
    (h : exec i s = retire len t (setReg q (memRead (m1 k s) a).1 (memRead (m1 k s) a).2)) :
    ∃ u, exec i s = .next u ∧ u.main.get q = (memRead s a).1 ∧ RegsExcept [q] s u ∧ NoFlags s u ∧
      Ended (s.pc + BitVec.ofNat 16 len) k t s u ∧ Except [.main] (memRead s a).2 u :=
  loads_of_setReg (keepsCore_memRead s a) (by rw [h, memRead_m1, setReg_m1])

/-- An instruction that stores one byte. -/
theorem puts_of_memWrite {a : Word} (h : exec i s = retire len t (memWrite (m1 k s) a v)) :
    ∃ u, exec i s = .next u ∧ Stores1 a v s u ∧ Ended (s.pc + BitVec.ofNat 16 len) k t s u ∧
      Except [.mem, .calls] s u := by
  rw [memWrite_m1, retire_m1] at h
  exact ⟨_, h, stores1_memWrite s a v,
    ended_completed (memWrite_pc s a v) (memWrite_r s a v) (memWrite_cycles s a v),
    except_completed (except_memWrite s a v)⟩

/-- An instruction that loads a register or a half of an index register (R158). -/
theorem loads_of_setHalfReg {xy : IndexReg} {q : HalfReg}
    (h : exec i s = retire len t (setHalfReg xy q v (m1 k s))) :
    ∃ u, exec i s = .next u ∧ getHalfReg xy q u = v ∧ (∀ p, p ≠ q → getHalfReg xy p u = getHalfReg xy p s) ∧
      (∀ o, o ≠ xy → getXy o u = getXy o s) ∧ u.main.h = s.main.h ∧ u.main.l = s.main.l ∧ NoFlags s u ∧
      Ended (s.pc + BitVec.ofNat 16 len) k t s u ∧ Except [.main, .ix, .iy] s u := by
  obtain ⟨hh, hl, hf⟩ := setHalfReg_main_h_l_f s xy q v
  rw [setHalfReg_m1, retire_m1] at h
  refine ⟨_, h, ?_, fun p hp => ?_, fun o ho => ?_, hh, hl, hf, ended_completed ?_ ?_ ?_,
    except_completed (except_setHalfReg s xy q v)⟩
  · rw [getHalfReg_completed, getHalfReg_setHalfReg]
  · rw [getHalfReg_completed, getHalfReg_setHalfReg_of_ne s xy v hp]
  · rw [getXy_completed, getXy_setHalfReg_of_ne s q v ho]
  all_goals simp

/-- An instruction that loads a half of an index register with a byte of its own (R159). -/
theorem loads_of_setHalf {xy : IndexReg} {g : Half} (h : exec i s = retire len t (setHalf xy g v (m1 k s))) :
    ∃ u, exec i s = .next u ∧ getHalf xy g u = v ∧ (∀ p, p ≠ g → getHalf xy p u = getHalf xy p s) ∧
      (∀ o, o ≠ xy → getXy o u = getXy o s) ∧ Ended (s.pc + BitVec.ofNat 16 len) k t s u ∧
      Except [.ix, .iy] s u := by
  rw [setHalf_m1, retire_m1] at h
  refine ⟨_, h, ?_, fun p hp => ?_, fun o ho => ?_, ended_completed ?_ ?_ ?_,
    except_completed (except_setHalf s xy g v)⟩
  · rw [getHalf_completed, getHalf_setHalf]
  · rw [getHalf_completed, getHalf_setHalf_of_ne s xy v hp]
  · rw [getXy_completed, getXy_setHalf_of_ne s g v ho]
  all_goals simp

/-- The flags of a load of A from I or R as R154 and R155 write them. -/
theorem specialLoadFlags_eq (s : State) (v : Byte) :
    specialLoadFlags v s.iff2 (flags s) =
      ⟨v.getLsbD 7, decide (v.toNat = 0), v.getLsbD 5, false, v.getLsbD 3, s.iff2, false, s.main.f.getLsbD 0⟩ := by
  rw [specialLoadFlags, beq_zero_eq_decide_toNat]
  rfl

/-- A and F loaded from the value `v` of I or R (R154, R155). -/
def specialLoad (v : Byte) (s : State) : State := putFlags xyMask (specialLoadFlags v s.iff2 (flags s)) (setReg .a v s)

theorem specialLoad_get (s : State) (v : Byte) (q : Reg8) : (specialLoad v s).main.get q = (s.main.set .a v).get q :=
  putFlags_get _ _ _ _

theorem except_specialLoad (s : State) (v : Byte) : Except [.main, .draws] s (specialLoad v s) := by
  intro f hf
  cases f <;> simp [Field.same, peek, specialLoad] at hf ⊢

/-- An instruction that loads A from `reg`, I or R, which holds at its end the value `v` that was loaded. -/
theorem reads_of_specialLoad {reg : State → Byte} (h : exec i s = retire 2 9 (m1 2 (specialLoad v s)))
    (hv : reg (completed 2 2 9 (specialLoad v s)) = v) :
    ∃ u, exec i s = .next u ∧ u.main.a = reg u ∧ RegsExcept [.a] s u ∧
      FlagsAre 0x28#8 ⟨(reg u).getLsbD 7, decide ((reg u).toNat = 0), (reg u).getLsbD 5, false, (reg u).getLsbD 3, s.iff2,
        false, s.main.f.getLsbD 0⟩ s u ∧
      Ended (s.pc + 2#16) 2 9 s u ∧ Except [.main, .draws] s u := by
  rw [retire_m1] at h
  refine ⟨_, h, ?_, fun q hq => ?_, ?_, ended_completed ?_ ?_ ?_, except_completed (except_specialLoad s v)⟩
  · rw [hv]
    exact specialLoad_get s v .a
  · exact (specialLoad_get s v q).trans (regsExcept_setReg s .a v q hq)
  · rw [hv, ← specialLoadFlags_eq]
    exact flagsAre_putFlags (setReg .a v s) xyMask _
  all_goals simp [specialLoad]

/-! ### The settlements -/

/-- Settles O25: the loads among registers are `loads_of_setReg`, those that name an index half `loads_of_setHalfReg` and
`loads_of_setHalf`. -/
theorem loadRegisterAndHalf : Obligations.LoadRegisterAndHalf := by
  unfold Obligations.LoadRegisterAndHalf
  exact ⟨⟨fun dst src => row_of_encode rfl rfl, fun r n => row_of_encode rfl rfl,
      fun dst src s => loads_of_setReg (keepsCore_refl s) rfl, fun r n s => loads_of_setReg (keepsCore_refl s) rfl⟩,
    fun xy dst src => row_of_encode (by rw [pre_eq_byte]; rfl) rfl,
    fun xy h n => row_of_encode (by rw [pre_eq_byte, halfBits_eq_code]; rfl) rfl,
    fun xy dst src s => loads_of_setHalfReg (by rw [exec, execLdRRXyh, getHalfReg_m1]),
    fun xy h n s => loads_of_setHalf rfl⟩

/-- Settles O26: each load is `loads_of_memRead` at its own address. -/
theorem loadRegisterFromMemory : Obligations.LoadRegisterFromMemory := by
  unfold Obligations.LoadRegisterFromMemory
  exact ⟨fun r => row_of_encode rfl rfl, fun r xy d => row_of_encode (by rw [pre_eq_byte]; rfl) rfl,
    row_of_encode rfl rfl, row_of_encode rfl rfl, fun nn => row_of_encode rfl rfl, fun s =>
    ⟨fun r => loads_of_memRead rfl, fun r xy d => loads_of_memRead rfl, loads_of_memRead rfl, loads_of_memRead rfl,
      fun nn => loads_of_memRead rfl⟩⟩

/-- Settles O27: each store is `puts_of_memWrite` at its own address. -/
theorem storeByte : Obligations.StoreByte := by
  unfold Obligations.StoreByte
  exact ⟨fun r => row_of_encode rfl rfl, fun xy d r => row_of_encode (by rw [pre_eq_byte]; rfl) rfl,
    fun n => row_of_encode rfl rfl, fun xy d n => row_of_encode (by rw [pre_eq_byte]; rfl) rfl,
    row_of_encode rfl rfl, row_of_encode rfl rfl, fun nn => row_of_encode rfl rfl, fun s =>
    ⟨fun r => puts_of_memWrite rfl, fun xy d r => puts_of_memWrite rfl, fun n => puts_of_memWrite rfl,
      fun xy d n => puts_of_memWrite rfl, puts_of_memWrite rfl, puts_of_memWrite rfl, fun nn => puts_of_memWrite rfl⟩⟩

/-- Settles O28: LD A,I and LD A,R are `reads_of_specialLoad`; LD I,A and LD R,A write the field after the M1 count. -/
theorem interruptAndRefreshLoads : Obligations.InterruptAndRefreshLoads := by
  unfold Obligations.InterruptAndRefreshLoads
  refine ⟨row_of_encode rfl rfl, row_of_encode rfl rfl, row_of_encode rfl rfl, row_of_encode rfl rfl, fun s =>
    ⟨reads_of_specialLoad (v := s.i) ?_ ?_, reads_of_specialLoad (v := refresh 2 s.r) ?_ ?_,
      ⟨completed 2 2 9 { s with i := s.main.a }, rfl, rfl, ended_completed rfl rfl rfl,
        except_completed (except_i s s.main.a)⟩,
      ⟨_, rfl, rfl, rfl, rfl, rfl, except_end (except_refl [] s)⟩⟩⟩
  · exact congrArg (retire 2 9) (putFlags_m1 (setReg .a s.i s) 2 _ _)
  · simp [completed, specialLoad]
  · exact congrArg (retire 2 9) (putFlags_m1 (setReg .a (refresh 2 s.r) s) 2 _ _)
  · simp [completed, specialLoad]

end Sys2Proof.Machine
end

section
/-! PROOFS. The 16-bit load and stack group (41_load16.md R170 to R183), with the settlements of O24 and O29 to O33. As for
the 8-bit loads, one lemma for each kind of instruction: it writes a pair, an index register or SP, stores a word, pushes,
or pops. -/

namespace Sys2Proof.Machine

open Claims

variable {i : Instr} {s b u : State} {k len t : Nat} {w : Word}

/-! ### Frames -/

theorem except_mono {fs gs : List Field} (h : Except fs s b) (hsub : fs ⊆ gs) : Except gs s b :=
  fun f hf => h f fun hm => hf (hsub hm)

/-- Two changes one after the other change what either of them may. -/
theorem except_trans {fs : List Field} (h : Except fs s b) (h' : Except fs b u) : Except fs s u := by
  intro f hf
  have hsb := h f hf
  have hbu := h' f hf
  cases f
  case mem => exact fun a => (hbu a).trans (hsb a)
  all_goals exact Eq.trans hbu hsb

theorem except_setPair (s : State) (rr : RegPair) (w : Word) : Except [.main, .sp] s (setPair rr w s) := by
  intro f hf
  cases f <;> simp [Field.same, peek] at hf ⊢

/-- HL, unlike SP, stands in the main set (R21). -/
theorem except_setPair_hl (s : State) (w : Word) : Except [.main] s (setPair .hl w s) := by
  intro f hf
  have hsame := except_setPair s .hl w f
  cases f
  case main => exact absurd List.mem_cons_self hf
  case sp => rfl
  all_goals exact hsame (by decide)

theorem except_setStackPair (s : State) (qq : StackPair) (w : Word) : Except [.main] s (setStackPair qq w s) := by
  intro f hf
  cases f <;> simp [Field.same, peek] at hf ⊢

theorem except_setXy (s : State) (xy : IndexReg) (w : Word) : Except [.ix, .iy] s (setXy xy w s) := by
  intro f hf
  cases f <;> simp [Field.same, peek] at hf ⊢

theorem except_sp (s : State) (w : Word) : Except [.sp] s { s with sp := w } := by
  intro f hf
  cases f <;> simp [Field.same, peek] at hf ⊢

theorem except_memWrite16 (s : State) (a w : Word) : Except [.mem, .calls] s (memWrite16 s a w) :=
  except_trans (except_memWrite s a (loByte w)) (except_memWrite _ (a + 1#16) (hiByte w))

/-- A pop is the word read at SP and, beyond it, a write of SP (R13). -/
theorem except_pop16 (s : State) : Except [.sp] (memRead16 s s.sp).2 (pop16 s).2 :=
  except_sp (memRead16 s s.sp).2 (s.sp + 2#16)

/-! ### The registers after a word read and after a pop -/

theorem keepsCore_memRead16 (s : State) (a : Word) : KeepsCore s (memRead16 s a).2 :=
  ⟨memRead16_main s a, memRead16_pc s a, memRead16_r s a, memRead16_cycles s a⟩

theorem keepsCore_pop16 (s : State) : KeepsCore s (pop16 s).2 :=
  ⟨pop16_main s, pop16_pc s, pop16_r s, pop16_cycles s⟩

theorem getXy_memRead16 (s : State) (xy : IndexReg) (a : Word) : getXy xy (memRead16 s a).2 = getXy xy s := by
  cases xy
  · exact memRead16_ix s a
  · exact memRead16_iy s a

theorem getXy_pop16 (s : State) (xy : IndexReg) : getXy xy (pop16 s).2 = getXy xy s := by
  cases xy
  · exact pop16_ix s
  · exact pop16_iy s

/-! ### Pairs (R21) -/

theorem getPair_setPair_of_ne (s : State) {rr q : RegPair} (w : Word) (h : q ≠ rr) :
    getPair q (setPair rr w s) = getPair q s := by
  cases rr <;> cases q
  case bc.bc | de.de | hl.hl | sp.sp => exact absurd rfl h
  all_goals rfl

theorem getStackPair_setStackPair_of_ne (s : State) {qq q : StackPair} (w : Word) (h : q ≠ qq) :
    getStackPair q (setStackPair qq w s) = getStackPair q s := by
  cases qq <;> cases q
  case bc.bc | de.de | hl.hl | af.af => exact absurd rfl h
  all_goals rfl

/-- A and F are in none of the pairs BC, DE, HL and SP (R95). -/
theorem setPair_main_a_f (s : State) (rr : RegPair) (w : Word) :
    (setPair rr w s).main.a = s.main.a ∧ (setPair rr w s).main.f = s.main.f := by
  cases rr <;> exact ⟨rfl, rfl⟩

theorem regsExcept_setPair_hl (s : State) (w : Word) : RegsExcept [.h, .l] s (setPair .hl w s) := by
  intro q hq
  cases q
  case h | l => exact absurd (by decide) hq
  all_goals rfl

@[simp] theorem getPair_completed (q : RegPair) : getPair q (completed k len t b) = getPair q b := by cases q <;> rfl

@[simp] theorem getStackPair_completed (q : StackPair) : getStackPair q (completed k len t b) = getStackPair q b := by
  cases q <;> rfl

theorem getPair_congr (hmain : b.main = s.main) (hsp : b.sp = s.sp) (q : RegPair) : getPair q b = getPair q s := by
  cases q <;> simp [getPair, hmain, hsp]

theorem getStackPair_congr (hmain : b.main = s.main) (q : StackPair) : getStackPair q b = getStackPair q s := by
  cases q <;> simp [getStackPair, hmain]

/-! ### The kinds of instruction -/

/-- An instruction that writes one of the pairs BC, DE, HL and SP after its operand was read. -/
theorem loads_of_setPair {rr : RegPair} (hb : KeepsCore s b) (hsp : b.sp = s.sp)
    (h : exec i s = retire len t (m1 k (setPair rr w b))) :
    ∃ u, exec i s = .next u ∧ getPair rr u = w ∧ (∀ q, q ≠ rr → getPair q u = getPair q s) ∧ u.main.a = s.main.a ∧
      NoFlags s u ∧ Ended (s.pc + BitVec.ofNat 16 len) k t s u ∧ Except [.main, .sp] b u := by
  obtain ⟨hmain, hpc, hr, hc⟩ := hb
  obtain ⟨ha, hf⟩ := setPair_main_a_f b rr w
  rw [hmain] at ha hf
  rw [retire_m1] at h
  refine ⟨_, h, ?_, fun q hq => ?_, ha, hf, ended_completed ?_ ?_ ?_, except_completed (except_setPair b rr w)⟩
  · rw [getPair_completed, getPair_setPair]
  · rw [getPair_completed, getPair_setPair_of_ne b w hq, getPair_congr hmain hsp]
  all_goals simpa

/-- An instruction that writes HL with a word from memory. -/
theorem loads_of_memRead16_hl {a : Word}
    (h : exec i s = retire len t (setPair .hl (memRead16 (m1 k s) a).1 (memRead16 (m1 k s) a).2)) :
    ∃ u, exec i s = .next u ∧ getPair .hl u = (memRead16 s a).1 ∧ RegsExcept [.h, .l] s u ∧ NoFlags s u ∧
      Ended (s.pc + BitVec.ofNat 16 len) k t s u ∧ Except [.main] (memRead16 s a).2 u := by
  obtain ⟨hmain, hpc, hr, hc⟩ := keepsCore_memRead16 s a
  rw [memRead16_m1, setPair_m1, retire_m1] at h
  refine ⟨_, h, ?_, ?_, ?_, ended_completed hpc hr hc, except_completed (except_setPair_hl _ _)⟩
  · rw [getPair_completed, getPair_setPair]
  · rw [RegsExcept, ← hmain]
    exact regsExcept_setPair_hl _ _
  · rw [NoFlags, ← hmain]
    exact (setPair_main_a_f _ .hl _).2

/-- An instruction that writes one of the pairs BC, DE, HL and SP with a word from memory. -/
theorem loads_of_memRead16_pair {rr : RegPair} {a : Word}
    (h : exec i s = retire len t (setPair rr (memRead16 (m1 k s) a).1 (memRead16 (m1 k s) a).2)) :
    ∃ u, exec i s = .next u ∧ getPair rr u = (memRead16 s a).1 ∧ (∀ q, q ≠ rr → getPair q u = getPair q s) ∧
      u.main.a = s.main.a ∧ NoFlags s u ∧ Ended (s.pc + BitVec.ofNat 16 len) k t s u ∧
      Except [.main, .sp] (memRead16 s a).2 u :=
  loads_of_setPair (keepsCore_memRead16 s a) (memRead16_sp s a) (by rw [h, memRead16_m1, setPair_m1])

/-- An instruction that writes an index register after its operand was read. -/
theorem loads_of_setXy {xy : IndexReg} (hb : KeepsCore s b) (hxy : ∀ o, getXy o b = getXy o s)
    (h : exec i s = retire len t (m1 k (setXy xy w b))) :
    ∃ u, exec i s = .next u ∧ getXy xy u = w ∧ (∀ o, o ≠ xy → getXy o u = getXy o s) ∧
      Ended (s.pc + BitVec.ofNat 16 len) k t s u ∧ Except [.ix, .iy] b u := by
  obtain ⟨-, hpc, hr, hc⟩ := hb
  rw [retire_m1] at h
  refine ⟨_, h, ?_, fun o ho => ?_, ended_completed ?_ ?_ ?_, except_completed (except_setXy b xy w)⟩
  · rw [getXy_completed, getXy_setXy]
  · rw [getXy_completed, getXy_setXy_of_ne b w ho, hxy]
  all_goals simpa

/-- An instruction that writes an index register with a word from memory. -/
theorem loads_of_memRead16_xy {xy : IndexReg} {a : Word}
    (h : exec i s = retire len t (setXy xy (memRead16 (m1 k s) a).1 (memRead16 (m1 k s) a).2)) :
    ∃ u, exec i s = .next u ∧ getXy xy u = (memRead16 s a).1 ∧ (∀ o, o ≠ xy → getXy o u = getXy o s) ∧
      Ended (s.pc + BitVec.ofNat 16 len) k t s u ∧ Except [.ix, .iy] (memRead16 s a).2 u :=
  loads_of_setXy (keepsCore_memRead16 s a) (fun o => getXy_memRead16 s o a) (by rw [h, memRead16_m1, setXy_m1])

/-- An instruction that writes SP with a word of the registers. -/
theorem loads_of_setSp (h : exec i s = retire len t (m1 k { s with sp := w })) :
    ∃ u, exec i s = .next u ∧ u.sp = w ∧ Ended (s.pc + BitVec.ofNat 16 len) k t s u ∧ Except [.sp] s u := by
  rw [retire_m1] at h
  exact ⟨_, h, rfl, ended_completed rfl rfl rfl, except_completed (except_sp s w)⟩

/-- An instruction that stores one word. -/
theorem puts_of_memWrite16 {a : Word} (h : exec i s = retire len t (memWrite16 (m1 k s) a w)) :
    ∃ u, exec i s = .next u ∧ Stores2 a (loByte w) (a + 1#16) (hiByte w) s u ∧
      Ended (s.pc + BitVec.ofNat 16 len) k t s u ∧ Except [.mem, .calls] s u := by
  rw [memWrite16_m1, retire_m1] at h
  exact ⟨_, h, stores2_memWrite16 s a w,
    ended_completed (memWrite16_pc s a w) (memWrite16_r s a w) (memWrite16_cycles s a w),
    except_completed (except_memWrite16 s a w)⟩

/-- An instruction that pushes one word. -/
theorem pushes_of_push16 (h : exec i s = retire len t (push16 w (m1 k s))) :
    ∃ u, exec i s = .next u ∧ Pushes w s u ∧ Ended (s.pc + BitVec.ofNat 16 len) k t s u ∧
      Except [.mem, .calls, .sp] s u := by
  rw [push16_m1, retire_m1] at h
  exact ⟨_, h, pushes_push16 s w, ended_completed (push16_pc s w) (push16_r s w) (push16_cycles s w),
    except_completed (except_mono (except_push16 s w) (by decide))⟩

/-- An instruction that pops a word into one of the pairs BC, DE, HL and AF. -/
theorem pops_of_setStackPair {qq : StackPair}
    (h : exec i s = retire len t (setStackPair qq (pop16 (m1 k s)).1 (pop16 (m1 k s)).2)) :
    ∃ u, exec i s = .next u ∧ getStackPair qq u = (memRead16 s s.sp).1 ∧
      (∀ q, q ≠ qq → getStackPair q u = getStackPair q s) ∧ u.sp = s.sp + 2#16 ∧
      Ended (s.pc + BitVec.ofNat 16 len) k t s u ∧ Except [.main, .sp] (memRead16 s s.sp).2 u := by
  rw [pop16_m1, setStackPair_m1, retire_m1] at h
  refine ⟨_, h, ?_, fun q hq => ?_, setStackPair_sp _ qq _, ended_completed (by simp) (by simp) (by simp),
    except_completed ?_⟩
  · rw [getStackPair_completed, getStackPair_setStackPair, pop16_eq]
  · rw [getStackPair_completed, getStackPair_setStackPair_of_ne _ _ hq, getStackPair_congr (pop16_main s)]
  · exact except_trans (except_mono (except_pop16 s) (by decide))
      (except_mono (except_setStackPair _ qq _) (by decide))

/-- An instruction that pops a word into an index register. -/
theorem pops_of_setXy {xy : IndexReg}
    (h : exec i s = retire len t (setXy xy (pop16 (m1 k s)).1 (pop16 (m1 k s)).2)) :
    ∃ u, exec i s = .next u ∧ getXy xy u = (memRead16 s s.sp).1 ∧ (∀ o, o ≠ xy → getXy o u = getXy o s) ∧
      u.sp = s.sp + 2#16 ∧ Ended (s.pc + BitVec.ofNat 16 len) k t s u ∧
      Except [.ix, .iy, .sp] (memRead16 s s.sp).2 u := by
  obtain ⟨u, hu, hself, hother, hend, hframe⟩ :=
    loads_of_setXy (keepsCore_pop16 s) (getXy_pop16 s) (h.trans (by rw [pop16_m1, setXy_m1]))
  exact ⟨u, hu, hself, hother, hframe .sp (by decide), hend,
    except_trans (except_mono (except_pop16 s) (by decide)) (except_mono hframe (by decide))⟩

/-! ### The settlements -/

/-- Settles O29: a pair is written by `loads_of_setPair`, an index register by `loads_of_setXy`, SP by `loads_of_setSp`. -/
theorem loadWordImmediate : Obligations.LoadWordImmediate := by
  unfold Obligations.LoadWordImmediate
  exact ⟨fun rr nn => row_of_encode rfl rfl, fun xy nn => row_of_encode (by rw [pre_eq_byte]; rfl) rfl,
    row_of_encode rfl rfl, fun xy => row_of_encode (by rw [pre_eq_byte]; rfl) rfl, fun s =>
    ⟨fun rr nn => loads_of_setPair (keepsCore_refl s) rfl (by rw [exec, execLdRrNn, setPair_m1]),
      fun xy nn => loads_of_setXy (keepsCore_refl s) (fun _ => rfl) (by rw [exec, execLdXyNn, setXy_m1]),
      loads_of_setSp rfl, fun xy => loads_of_setSp (by rw [exec, execLdSpXy, getXy_m1]; rfl)⟩⟩

/-- Settles O30: each load is the word read at `nn` and the write of its own pair or index register. -/
theorem loadWordFromMemory : Obligations.LoadWordFromMemory := by
  unfold Obligations.LoadWordFromMemory
  exact ⟨fun nn => row_of_encode rfl rfl, fun rr nn => row_of_encode rfl rfl,
    fun xy nn => row_of_encode (by rw [pre_eq_byte]; rfl) rfl, fun s nn =>
    ⟨loads_of_memRead16_hl rfl, fun rr => loads_of_memRead16_pair rfl, fun xy => loads_of_memRead16_xy rfl⟩⟩

/-- Settles O31: each store is `puts_of_memWrite16` at `nn`, and HL's bytes are L and H. -/
theorem storeWord : Obligations.StoreWord := by
  unfold Obligations.StoreWord
  refine ⟨fun nn => row_of_encode rfl rfl, fun rr nn => row_of_encode rfl rfl,
    fun xy nn => row_of_encode (by rw [pre_eq_byte]; rfl) rfl, fun s nn =>
    ⟨?_, fun rr => puts_of_memWrite16 rfl, fun xy => puts_of_memWrite16 rfl⟩⟩
  have h := puts_of_memWrite16 (i := .ldMNnHl nn) (s := s) (w := s.main.hl) rfl
  rwa [Regs.hl, loByte_joinBytes, hiByte_joinBytes] at h

/-- Settles O32: each push is `pushes_of_push16`. -/
theorem pushPair : Obligations.PushPair := by
  unfold Obligations.PushPair
  exact ⟨fun qq => row_of_encode rfl rfl, fun xy => row_of_encode (by rw [pre_eq_byte]; rfl) rfl, fun s =>
    ⟨fun qq => pushes_of_push16 rfl, fun xy => pushes_of_push16 rfl⟩⟩

/-- Settles O33: each pop is the word read at SP and the write of its own pair or index register. -/
theorem popPair : Obligations.PopPair := by
  unfold Obligations.PopPair
  exact ⟨fun qq => row_of_encode rfl rfl, fun xy => row_of_encode (by rw [pre_eq_byte]; rfl) rfl, fun s =>
    ⟨fun qq => pops_of_setStackPair rfl, fun xy => pops_of_setXy rfl⟩⟩

section
variable {c d : Word}

/-- The word on top of the stack after a push to two cells is the word pushed (R13). -/
theorem memRead16_of_pushes (h : Pushes w s u) (hp : u.params = s.params) (hc : ReachesCell s (s.sp - 1#16) c)
    (hd : ReachesCell s (s.sp - 2#16) d) (hcd : c ≠ d) : (memRead16 u u.sp).1 = w := by
  obtain ⟨hs, hsp⟩ := h
  have hnext : s.sp - 2#16 + 1#16 = s.sp - 1#16 := by bv_omega
  have hlow := loadCell_ne_none_of_reachesCell hd hp
  have hhigh := loadCell_ne_none_of_reachesCell hc hp
  rw [hsp, memRead16_plain u hlow (hnext ▸ hhigh), hnext, arrayByte_first_of_stores2 hs hp hc hd hcd,
    arrayByte_second_of_stores2 hs hp hd, joinBytes_hi_lo]

/-- A push leaves every cell but those the mapper gives SP - 1 and SP - 2 (R13, R61). -/
theorem peek_of_pushes (h : Pushes w s u) (hc : ReachesCell s (s.sp - 1#16) c) (hd : ReachesCell s (s.sp - 2#16) d)
    {a : Word} (hac : a ≠ c) (had : a ≠ d) : peek u a = peek s a := by
  obtain ⟨⟨-, hpeek⟩, -⟩ := h
  rw [hpeek, hc.2, hd.2, if_neg fun e => had (Option.some.inj e).symm, if_neg fun e => hac (Option.some.inj e).symm]

end

/-- Settles O24: the pop reads the word the push stored (`memRead16_of_pushes`), and neither changes another cell. -/
theorem pushThenPopMovesPair : Obligations.PushThenPopMovesPair := by
  unfold Obligations.PushThenPopMovesPair
  intro qq qd s c d hc hd hcd
  obtain ⟨u, hu, hpushes, -, hframe⟩ := pushes_of_push16 (i := .pushQq qq) (s := s) rfl
  obtain ⟨v, hv, hword, -, hsp, -, hframe'⟩ := pops_of_setStackPair (i := .popQq qd) (s := u) rfl
  have hread : (memRead16 u u.sp).1 = getStackPair qq s :=
    memRead16_of_pushes hpushes (hframe .params (by decide)) hc hd hcd
  refine ⟨u, v, hu, hv, hword.trans hread, ?_, fun a hac had => ?_⟩
  · rw [hsp, hpushes.2, BitVec.sub_add_cancel]
  · calc peek v a = peek (memRead16 u u.sp).2 a := hframe' .mem (by decide) a
      _ = peek u a := peek_congr (memRead16_mem u u.sp) a
      _ = peek s a := peek_of_pushes hpushes hc hd hac had

end Sys2Proof.Machine
end

section
/-! PROOFS. The exchange, block transfer and block search group (42_exchange_block.md R190 to R203), with the settlements of
O34 to O37. An exchange is a write of whole register sets or a word read and a word stored at SP; a block instruction is one
iteration of `blockMove` or `blockSearch`, which may stay on its own address (R195). -/

namespace Sys2Proof.Machine

open Claims

variable {i : Instr} {s b u x : State} {k len t : Nat} {delta w : Word} {again repeats : Bool}

/-! ### Frames -/

theorem except_setMain (s : State) (g : Regs) : Except [.main] s (setMain g s) := by
  intro f hf
  cases f <;> simp [Field.same, peek] at hf ⊢

/-- Both register sets written, and nothing else (R20, R22). -/
theorem except_main_alt (s : State) (g g' : Regs) : Except [.main, .alt] s { s with main := g, alt := g' } := by
  intro f hf
  cases f <;> simp [Field.same, peek] at hf ⊢

/-- A write of F may draw a free value (R8). -/
theorem except_putFlags (s : State) (mask : Byte) (fl : FlagBits) : Except [.main, .draws] s (putFlags mask fl s) := by
  intro f hf
  cases f <;> simp [Field.same, peek] at hf ⊢

/-- The exchange of a word with the top of the stack is the word read at SP and, beyond it, two stores (R193). -/
theorem except_exchangeSp (s : State) (w : Word) :
    Except [.mem, .calls] (memRead16 s s.sp).2 (exchangeSp w s).2 := by
  rw [exchangeSp_eq]
  exact except_trans (except_memWrite _ _ _) (except_memWrite _ _ _)

/-- One block transfer is the byte read at HL and, beyond it, the store and the registers (R196). -/
theorem except_blockMove (s : State) (delta : Word) :
    Except [.main, .mem, .calls, .draws] (memRead s (getPair .hl s)).2 (blockMove delta s) :=
  except_trans (except_mono (except_memWrite _ _ _) (by decide))
    (except_trans (except_mono (except_setMain _ _) (by decide)) (except_mono (except_putFlags _ _ _) (by decide)))

/-- One block search is the byte read at HL and, beyond it, the registers (R200). -/
theorem except_blockSearch (s : State) (delta : Word) :
    Except [.main, .draws] (memRead s (getPair .hl s)).2 (blockSearch delta s).2 :=
  except_trans (except_mono (except_setMain _ _) (by decide)) (except_putFlags _ _ _)

/-! ### Stores and flags seen from another state -/

theorem stores1_of_except {fs : List Field} {a : Word} {v : Byte} (h : Stores1 a v s x) (hf : Except fs x u)
    (hmem : Field.mem ∉ fs) (hcalls : Field.calls ∉ fs) : Stores1 a v s u :=
  ⟨(hf .calls hcalls).trans h.1, fun c => (hf .mem hmem c).trans (h.2 c)⟩

theorem stores2_of_except {fs : List Field} {a a' : Word} {v v' : Byte} (h : Stores2 a v a' v' s x) (hf : Except fs x u)
    (hmem : Field.mem ∉ fs) (hcalls : Field.calls ∉ fs) : Stores2 a v a' v' s u :=
  ⟨(hf .calls hcalls).trans h.1, fun c => (hf .mem hmem c).trans (h.2 c)⟩

/-- The exchange stores the high byte at SP + 1, then the low byte at SP (R193). -/
theorem stores2_exchangeSp (s : State) (w : Word) :
    Stores2 (s.sp + 1#16) (hiByte w) s.sp (loByte w) (memRead16 s s.sp).2 (exchangeSp w s).2 := by
  rw [exchangeSp_eq]
  exact ⟨by simp, fun c => by simp [peek_memWrite]⟩

/-- Whether F is free, and the free value, depend on the parameters and the count of draws (R8). -/
theorem flagsAre_congr {mask : Byte} {fl : FlagBits} (h : FlagsAre mask fl x u) (hp : x.params = s.params)
    (hd : x.draws = s.draws) : FlagsAre mask fl s u := by
  rwa [FlagsAre, hp, hd] at h

/-! ### Registers -/

/-- B, C, D, E, H and L of a set do not depend on its A and F (R20). -/
theorem get_with_a_f (g : Regs) (va vf : Byte) {q : Reg8} (h : q ≠ .a) :
    ({ g with a := va, f := vf } : Regs).get q = g.get q := by
  cases q
  case a => exact absurd rfl h
  all_goals rfl

@[simp] theorem getPair_putFlags (s : State) (mask : Byte) (fl : FlagBits) (rr : RegPair) :
    getPair rr (putFlags mask fl s) = getPair rr s := by
  cases rr <;> simp [getPair, Regs.bc, Regs.de, Regs.hl]

theorem getXy_exchangeSp (s : State) (xy : IndexReg) (w : Word) : getXy xy (exchangeSp w s).2 = getXy xy s := by
  cases xy
  · exact exchangeSp_ix s w
  · exact exchangeSp_iy s w

theorem keepsCore_exchangeSp (s : State) (w : Word) : KeepsCore s (exchangeSp w s).2 :=
  ⟨exchangeSp_main s w, exchangeSp_pc s w, exchangeSp_r s w, exchangeSp_cycles s w⟩

/-! ### The exchanges with the top of the stack -/

/-- An instruction that writes HL after its operand was read. -/
theorem loads_of_setPair_hl (hb : KeepsCore s b) (h : exec i s = retire len t (m1 k (setPair .hl w b))) :
    ∃ u, exec i s = .next u ∧ getPair .hl u = w ∧ RegsExcept [.h, .l] s u ∧ NoFlags s u ∧
      Ended (s.pc + BitVec.ofNat 16 len) k t s u ∧ Except [.main] b u := by
  obtain ⟨hmain, hpc, hr, hc⟩ := hb
  rw [retire_m1] at h
  refine ⟨_, h, ?_, ?_, ?_, ended_completed hpc hr hc, except_completed (except_setPair_hl b w)⟩
  · rw [getPair_completed, getPair_setPair]
  · rw [RegsExcept, ← hmain]
    exact regsExcept_setPair_hl b w
  · rw [NoFlags, ← hmain]
    exact (setPair_main_a_f b .hl w).2

/-- An instruction that exchanges HL with the top of the stack. -/
theorem exchanges_of_setPair_hl
    (h : exec i s = retire len t (setPair .hl (exchangeSp w (m1 k s)).1 (exchangeSp w (m1 k s)).2)) :
    ∃ u, exec i s = .next u ∧ getPair .hl u = (memRead16 s s.sp).1 ∧ RegsExcept [.h, .l] s u ∧ NoFlags s u ∧
      Stores2 (s.sp + 1#16) (hiByte w) s.sp (loByte w) (memRead16 s s.sp).2 u ∧
      Ended (s.pc + BitVec.ofNat 16 len) k t s u ∧ Except [.main, .mem, .calls] (memRead16 s s.sp).2 u := by
  obtain ⟨u, hu, hhl, hregs, hflags, hend, hframe⟩ :=
    loads_of_setPair_hl (keepsCore_exchangeSp s w) (h.trans (by rw [exchangeSp_m1, setPair_m1]))
  exact ⟨u, hu, hhl, hregs, hflags, stores2_of_except (stores2_exchangeSp s w) hframe (by decide) (by decide), hend,
    except_trans (except_mono (except_exchangeSp s w) (by decide)) (except_mono hframe (by decide))⟩

/-- An instruction that exchanges an index register with the top of the stack. -/
theorem exchanges_of_setXy {xy : IndexReg}
    (h : exec i s = retire len t (setXy xy (exchangeSp w (m1 k s)).1 (exchangeSp w (m1 k s)).2)) :
    ∃ u, exec i s = .next u ∧ getXy xy u = (memRead16 s s.sp).1 ∧ (∀ o, o ≠ xy → getXy o u = getXy o s) ∧
      Stores2 (s.sp + 1#16) (hiByte w) s.sp (loByte w) (memRead16 s s.sp).2 u ∧
      Ended (s.pc + BitVec.ofNat 16 len) k t s u ∧ Except [.ix, .iy, .mem, .calls] (memRead16 s s.sp).2 u := by
  obtain ⟨u, hu, hxy, hother, hend, hframe⟩ :=
    loads_of_setXy (keepsCore_exchangeSp s w) (fun o => getXy_exchangeSp s o w)
      (h.trans (by rw [exchangeSp_m1, setXy_m1]))
  exact ⟨u, hu, hxy, hother, stores2_of_except (stores2_exchangeSp s w) hframe (by decide) (by decide), hend,
    except_trans (except_mono (except_exchangeSp s w) (by decide)) (except_mono hframe (by decide))⟩

/-! ### One iteration of a block instruction (R195) -/

/-- The end of one iteration whose effects are those of `b`: on the instruction's own address when it runs `again`. -/
def iterated (again : Bool) (b : State) : State :=
  completed 2 (if again then 0 else 2) (if again then 21 else 16) b

theorem repeatOrRetire_m1 (again : Bool) (b : State) : repeatOrRetire again (m1 2 b) = .next (iterated again b) := by
  cases again
  · rfl
  · simp [repeatOrRetire_eq, iterated, completed]

theorem ended_iterated {p : Prop} [Decidable p] (hp : p ↔ again = true) (hpc : b.pc = s.pc) (hr : b.r = s.r)
    (hc : b.cycles = s.cycles) :
    if p then Ended s.pc 2 21 s (iterated again b) else Ended (s.pc + 2#16) 2 16 s (iterated again b) := by
  cases again
  case false =>
    rw [if_neg (by simp [hp])]
    exact ended_completed hpc hr hc
  case true =>
    rw [if_pos (hp.mpr rfl)]
    have hend := ended_completed (len := 0) (k := 2) (t := 21) hpc hr hc
    rwa [BitVec.add_zero] at hend

/-- The count compared with 0 as a word and as a number. -/
theorem bne_zero_eq_decide_toNat (bc : Word) : (bc != 0#16) = decide (bc.toNat ≠ 0) := by
  rw [Bool.eq_iff_iff, bne_iff_ne, decide_eq_true_eq, ne_eq, ne_eq, BitVec.toNat_eq]
  rfl

/-! ### One block transfer (R196, R197) -/

theorem blockMoveFlags_eq (v a : Byte) (bc : Word) (old : FlagBits) :
    blockMoveFlags v a bc old = ruleBlockMove v a bc old := by
  have hsum : v + a = BitVec.ofNat 8 ((v.toNat + a.toNat) % 256) := by
    apply BitVec.eq_of_toNat_eq
    simp
  rw [blockMoveFlags, ruleBlockMove, bne_zero_eq_decide_toNat, hsum]

theorem blockMove_pairs (s : State) (delta : Word) :
    getPair .hl (blockMove delta s) = getPair .hl s + delta ∧ getPair .de (blockMove delta s) = getPair .de s + delta ∧
      getPair .bc (blockMove delta s) = getPair .bc s - 1#16 := by
  simp only [blockMove, getPair_putFlags]
  exact ⟨joinBytes_hi_lo _, joinBytes_hi_lo _, joinBytes_hi_lo _⟩

theorem stores1_blockMove (s : State) (delta : Word) :
    Stores1 (getPair .de s) (memRead s (getPair .hl s)).1 (memRead s (getPair .hl s)).2 (blockMove delta s) :=
  stores1_of_except (stores1_memWrite _ _ _)
    (except_trans (except_mono (except_setMain _ _) (by decide)) (except_putFlags _ _ _)) (by decide) (by decide)

theorem flagsAre_blockMove (s : State) (delta : Word) :
    FlagsAre 0x28#8
      (ruleBlockMove (memRead s (getPair .hl s)).1 s.main.a (getPair .bc (blockMove delta s)) (flags s))
      (memRead s (getPair .hl s)).2 (blockMove delta s) := by
  obtain ⟨-, -, hbc⟩ := blockMove_pairs s delta
  rw [hbc, ← blockMoveFlags_eq]
  exact flagsAre_congr (flagsAre_putFlags _ _ _) (memWrite_params _ _ _) (memWrite_draws _ _ _)

/-- An instruction that is one block transfer, and that stays on its address, where it `repeats`, while BC is not 0. -/
theorem moves_of_blockMove
    (h : exec i s =
      repeatOrRetire (repeats && (blockMove delta (m1 2 s)).main.bc != 0#16) (blockMove delta (m1 2 s))) :
    ∃ u, exec i s = .next u ∧
      Stores1 (getPair .de s) (memRead s (getPair .hl s)).1 (memRead s (getPair .hl s)).2 u ∧
      getPair .hl u = getPair .hl s + delta ∧ getPair .de u = getPair .de s + delta ∧
      getPair .bc u = getPair .bc s - 1#16 ∧ u.main.a = s.main.a ∧
      FlagsAre 0x28#8 (ruleBlockMove (memRead s (getPair .hl s)).1 s.main.a (getPair .bc u) (flags s))
        (memRead s (getPair .hl s)).2 u ∧
      (if repeats = true ∧ getPair .bc u ≠ 0#16 then Ended s.pc 2 21 s u else Ended (s.pc + 2#16) 2 16 s u) ∧
      Except [.main, .mem, .calls, .draws] (memRead s (getPair .hl s)).2 u := by
  obtain ⟨hhl, hde, hbc⟩ := blockMove_pairs s delta
  rw [blockMove_m1, m1_main, repeatOrRetire_m1] at h
  refine ⟨_, h, stores1_blockMove s delta, hhl, hde, hbc, ?_, flagsAre_blockMove s delta,
    ended_iterated ?_ (blockMove_pc s delta) (blockMove_r s delta) (blockMove_cycles s delta),
    except_completed (except_blockMove s delta)⟩
  · exact putFlags_main_a _ _ _
  · rw [Bool.and_eq_true, bne_iff_ne]
    rfl

/-! ### One block search (R200, R201) -/

theorem blockSearchFlags_eq (v a : Byte) (bc : Word) (old : FlagBits) :
    blockSearchFlags v a bc old = ruleBlockSearch v a bc old := by
  have hz : (a - v == 0#8) = decide (a = v) := by
    rw [Bool.eq_iff_iff, beq_iff_eq, decide_eq_true_eq, BitVec.sub_eq_iff_eq_add, BitVec.zero_add]
  have hborrow (c : Bool) : BitVec.ofNat 8 c.toNat = if c then 1#8 else 0#8 := by cases c <;> rfl
  simp only [blockSearchFlags, ruleBlockSearch, bne_zero_eq_decide_toNat, hz, hborrow]
  rfl

theorem blockSearch_pairs (s : State) (delta : Word) :
    getPair .hl (blockSearch delta s).2 = getPair .hl s + delta ∧
      getPair .bc (blockSearch delta s).2 = getPair .bc s - 1#16 := by
  simp only [blockSearch, getPair_putFlags]
  exact ⟨joinBytes_hi_lo _, joinBytes_hi_lo _⟩

theorem regsExcept_blockSearch (s : State) (delta : Word) : RegsExcept [.b, .c, .h, .l] s (blockSearch delta s).2 := by
  intro q hq
  refine (putFlags_get _ _ _ q).trans ?_
  cases q
  case b | c | h | l => exact absurd (by decide) hq
  all_goals rfl

theorem flagsAre_blockSearch (s : State) (delta : Word) :
    FlagsAre 0x28#8
      (ruleBlockSearch (memRead s (getPair .hl s)).1 s.main.a (getPair .bc (blockSearch delta s).2) (flags s))
      (memRead s (getPair .hl s)).2 (blockSearch delta s).2 := by
  obtain ⟨-, hbc⟩ := blockSearch_pairs s delta
  rw [hbc, ← blockSearchFlags_eq]
  exact flagsAre_congr (flagsAre_putFlags _ _ _) rfl rfl

/-- The difference a search answers is 0 exactly where the byte equals A (R200). -/
theorem blockSearch_fst_ne_zero (s : State) (delta : Word) :
    (blockSearch delta s).1 ≠ 0#8 ↔ s.main.a ≠ (memRead s (getPair .hl s)).1 := by
  rw [ne_eq, ne_eq, blockSearch, BitVec.sub_eq_iff_eq_add, BitVec.zero_add]
  rfl

/-- An instruction that is one block search, and that stays on its address, where it `repeats`, while BC is not 0 and the
byte differs from A. -/
theorem searches_of_blockSearch
    (h : exec i s =
      repeatOrRetire
        (repeats && ((blockSearch delta (m1 2 s)).2.main.bc != 0#16 && (blockSearch delta (m1 2 s)).1 != 0#8))
        (blockSearch delta (m1 2 s)).2) :
    ∃ u, exec i s = .next u ∧ getPair .hl u = getPair .hl s + delta ∧ getPair .bc u = getPair .bc s - 1#16 ∧
      RegsExcept [.b, .c, .h, .l] s u ∧
      FlagsAre 0x28#8 (ruleBlockSearch (memRead s (getPair .hl s)).1 s.main.a (getPair .bc u) (flags s))
        (memRead s (getPair .hl s)).2 u ∧
      (if repeats = true ∧ getPair .bc u ≠ 0#16 ∧ s.main.a ≠ (memRead s (getPair .hl s)).1 then Ended s.pc 2 21 s u
        else Ended (s.pc + 2#16) 2 16 s u) ∧
      Except [.main, .draws] (memRead s (getPair .hl s)).2 u := by
  obtain ⟨hhl, hbc⟩ := blockSearch_pairs s delta
  rw [blockSearch_m1, m1_main, repeatOrRetire_m1] at h
  refine ⟨_, h, hhl, hbc, regsExcept_blockSearch s delta, flagsAre_blockSearch s delta,
    ended_iterated ?_ (blockSearch_pc s delta) (blockSearch_r s delta) (blockSearch_cycles s delta),
    except_completed (except_blockSearch s delta)⟩
  rw [Bool.and_eq_true, Bool.and_eq_true, bne_iff_ne, bne_iff_ne, blockSearch_fst_ne_zero]
  rfl

/-! ### The settlements -/

/-- Settles O34: each exchange writes the register sets whole; what it does not move it writes back as it was. -/
theorem registerExchanges : Obligations.RegisterExchanges := by
  unfold Obligations.RegisterExchanges
  refine ⟨row_of_encode rfl rfl, row_of_encode rfl rfl, row_of_encode rfl rfl, fun s => ⟨?deHl, ?afAf, ?exx⟩⟩
  case deHl =>
    refine ⟨completed 1 1 4 (setMain ((s.main.setDe s.main.hl).setHl s.main.de) s), rfl, hiByte_joinBytes _ _,
      loByte_joinBytes _ _, hiByte_joinBytes _ _, loByte_joinBytes _ _, fun q hq => ?_, rfl,
      ended_completed rfl rfl rfl, except_completed (except_setMain s _)⟩
    cases q
    case d | e | h | l => exact absurd (by decide) hq
    all_goals rfl
  case afAf =>
    exact ⟨completed 1 1 4
        { s with main := { s.main with a := s.alt.a, f := s.alt.f }, alt := { s.alt with a := s.main.a, f := s.main.f } },
      rfl, rfl, rfl, rfl, rfl, fun q hq => get_with_a_f s.main _ _ (by simpa using hq),
      fun q hq => get_with_a_f s.alt _ _ hq, ended_completed rfl rfl rfl, except_completed (except_main_alt s _ _)⟩
  case exx =>
    exact ⟨completed 1 1 4
        { s with main := { s.alt with a := s.main.a, f := s.main.f }, alt := { s.main with a := s.alt.a, f := s.alt.f } },
      rfl, fun q hq => ⟨get_with_a_f s.alt _ _ hq, get_with_a_f s.main _ _ hq⟩, rfl, rfl, rfl, rfl,
      ended_completed rfl rfl rfl, except_completed (except_main_alt s _ _)⟩

/-- Settles O35: both forms are the exchange at SP and the write of their own register, and HL's bytes are H and L. -/
theorem stackTopExchange : Obligations.StackTopExchange := by
  unfold Obligations.StackTopExchange
  refine ⟨row_of_encode rfl rfl, fun xy => row_of_encode (by rw [pre_eq_byte]; rfl) rfl, fun s =>
    ⟨?_, fun xy => exchanges_of_setXy rfl⟩⟩
  have h := exchanges_of_setPair_hl (i := .exMSpHl) (s := s) (w := s.main.hl) rfl
  rwa [Regs.hl, hiByte_joinBytes, loByte_joinBytes] at h

/-- Settles O36: each form is `moves_of_blockMove`; LDI and LDD never repeat. -/
theorem blockTransfer : Obligations.BlockTransfer := by
  unfold Obligations.BlockTransfer
  exact ⟨row_of_encode rfl rfl, row_of_encode rfl rfl, row_of_encode rfl rfl, row_of_encode rfl rfl, fun s =>
    ⟨moves_of_blockMove rfl, moves_of_blockMove rfl, moves_of_blockMove rfl, moves_of_blockMove rfl⟩⟩

/-- Settles O37: each form is `searches_of_blockSearch`; CPI and CPD never repeat. (The bare name `blockSearch` is the
model's operation.) -/
theorem blockSearch_obligation : Obligations.BlockSearch := by
  unfold Obligations.BlockSearch
  exact ⟨row_of_encode rfl rfl, row_of_encode rfl rfl, row_of_encode rfl rfl, row_of_encode rfl rfl, fun s =>
    ⟨searches_of_blockSearch rfl, searches_of_blockSearch rfl, searches_of_blockSearch rfl,
      searches_of_blockSearch rfl⟩⟩

end Sys2Proof.Machine
end

section
/-! PROOFS. The 8-bit arithmetic and logic group (43_alu8.md R210 to R228), with the settlements of O38 to O41. The flag
computations of the model are those the rules write over numbers; one lemma for each kind of instruction then says where the
result and the flags go: to a register, to a half of an index register, or back to memory. -/

namespace Sys2Proof.Machine

open Claims

variable {i : Instr} {s b u : State} {k len t : Nat} {q : Byte × FlagBits}

/-! ### The signs of bytes -/

theorem bit7_eq_decide_toNat (v : Byte) : v.getLsbD 7 = decide (128 ≤ v.toNat) :=
  (BitVec.msb_eq_getLsbD_last v).symm.trans (BitVec.msb_eq_decide v)

theorem toInt_eq_of_bit7 (v : Byte) : v.toInt = if 128 ≤ v.toNat then (v.toNat : Int) - 256 else v.toNat := by
  rw [BitVec.toInt_eq_toNat_cond]
  split <;> split <;> omega

/-- A sum leaves the signed range exactly where its sign is neither operand's (R210). -/
theorem outside8_add (a v : Byte) (c : Bool) :
    outside8 (a.toInt + v.toInt + c.toNat) =
      (~~~(a ^^^ v) &&& (a ^^^ BitVec.ofNat 8 ((a.toNat + v.toNat + c.toNat) % 256))).getLsbD 7 := by
  have hc := c.toNat_le
  simp only [outside8, toInt_eq_of_bit7, BitVec.getLsbD_and, BitVec.getLsbD_not, BitVec.getLsbD_xor]
  rw [bit7_eq_decide_toNat a, bit7_eq_decide_toNat v, bit7_eq_decide_toNat (BitVec.ofNat 8 _), BitVec.toNat_ofNat,
    Bool.eq_iff_iff]
  by_cases hsa : 128 ≤ a.toNat <;> by_cases hsv : 128 ≤ v.toNat <;> simp [hsa, hsv] <;> omega

/-- A difference, over numbers (R211). -/
theorem toNat_sub_borrow (a v : Byte) (c : Bool) :
    (a - v - BitVec.ofNat 8 c.toNat).toNat = (a.toNat + 512 - v.toNat - c.toNat) % 256 := by
  have hc := c.toNat_le
  rw [BitVec.toNat_sub, BitVec.toNat_sub, BitVec.toNat_ofNat]
  omega

theorem ofInt_sub_borrow (a v : Byte) (c : Bool) :
    BitVec.ofInt 8 ((a.toNat : Int) - v.toNat - c.toNat) = a - v - BitVec.ofNat 8 c.toNat := by
  have hc := c.toNat_le
  apply BitVec.eq_of_toNat_eq
  rw [toNat_sub_borrow, BitVec.toNat_ofInt]
  omega

/-- A difference leaves the signed range exactly where the operands' signs differ and its own is not the first's (R211). -/
theorem outside8_sub (a v : Byte) (c : Bool) :
    outside8 (a.toInt - v.toInt - c.toNat) =
      ((a ^^^ v) &&& (a ^^^ (a - v - BitVec.ofNat 8 c.toNat))).getLsbD 7 := by
  have hc := c.toNat_le
  simp only [outside8, toInt_eq_of_bit7, BitVec.getLsbD_and, BitVec.getLsbD_xor]
  rw [bit7_eq_decide_toNat a, bit7_eq_decide_toNat v, bit7_eq_decide_toNat (_ - _), toNat_sub_borrow, Bool.eq_iff_iff]
  by_cases hsa : 128 ≤ a.toNat <;> by_cases hsv : 128 ≤ v.toNat <;> simp [hsa, hsv] <;> omega

/-! ### The flag computations as the rules write them -/

theorem add8_eq_ruleAdd8 (a v : Byte) (c : Bool) : add8 a v c = ruleAdd8 a v c.toNat := by
  have hres : BitVec.ofNat 8 (a.toNat + v.toNat + c.toNat) =
      BitVec.ofNat 8 ((a.toNat + v.toNat + c.toNat) % 256) :=
    BitVec.eq_of_toNat_eq (by simp)
  simp only [add8, ruleAdd8, outside8_add, beq_zero_eq_decide_toNat, hres]
  rfl

theorem sub8_eq_ruleSub8 (xy : Config.XySub) (a v : Byte) (c : Bool) : sub8 xy a v c = ruleSub8 xy a v c.toNat := by
  simp only [sub8, ruleSub8, outside8_sub, beq_zero_eq_decide_toNat, ofInt_sub_borrow]
  cases xy <;> rfl

theorem parity_eq_ruleParity (v : Byte) : parity v = ruleParity v := by
  revert v
  decide

theorem logicFlags_eq_ruleLogic (res : Byte) (h : Bool) : logicFlags res h = ruleLogic res h := by
  rw [logicFlags, ruleLogic, beq_zero_eq_decide_toNat, parity_eq_ruleParity]

/-- Two bytes compared as bytes and as numbers. -/
theorem beq_eq_decide_toNat (v w : Byte) : (v == w) = decide (v.toNat = w.toNat) := by
  rw [Bool.eq_iff_iff, beq_iff_eq, decide_eq_true_eq, BitVec.toNat_eq]

theorem inc8_eq_ruleStep : inc8 = ruleStep true := by
  funext v old
  have hres : v + 1#8 = BitVec.ofNat 8 ((v.toNat + 1) % 256) := BitVec.eq_of_toNat_eq (by simp)
  simp only [inc8, hres, beq_eq_decide_toNat]
  rfl

theorem dec8_eq_ruleStep : dec8 = ruleStep false := by
  funext v old
  have hres : v - 1#8 = BitVec.ofNat 8 ((v.toNat + 255) % 256) := by
    rw [BitVec.sub_eq_add_neg]
    exact BitVec.eq_of_toNat_eq (by simp)
  simp only [dec8, hres, beq_eq_decide_toNat]
  rfl

/-! ### A result and its flags -/

/-- An 8-bit result goes to a register, its flags to F (R210 to R225). -/
def putResult (r : Reg8) (q : Byte × FlagBits) (s : State) : State := putFlags xyMask q.2 (setReg r q.1 s)

theorem putResult_m1 (r : Reg8) (q : Byte × FlagBits) (k : Nat) (s : State) :
    putResult r q (m1 k s) = m1 k (putResult r q s) :=
  putFlags_m1 (setReg r q.1 s) k _ _

theorem except_putResult (r : Reg8) (q : Byte × FlagBits) (s : State) :
    Except [.main, .draws] s (putResult r q s) :=
  except_trans (except_mono (except_setReg s r q.1) (by decide)) (except_putFlags _ _ _)

/-- An instruction that writes a result and its flags after its operand was read. -/
theorem computes_of_putResult {r : Reg8} (hb : KeepsCore s b) (h : exec i s = retire len t (putResult r q (m1 k b))) :
    ∃ u, exec i s = .next u ∧ u.main.get r = q.1 ∧ RegsExcept [r] b u ∧ FlagsAre 0x28#8 q.2 b u ∧
      Ended (s.pc + BitVec.ofNat 16 len) k t s u ∧ Except [.main, .draws] b u := by
  obtain ⟨-, hpc, hr, hc⟩ := hb
  rw [putResult_m1, retire_m1] at h
  refine ⟨_, h, ?_, fun p hp => ?_, flagsAre_putFlags (setReg r q.1 b) xyMask q.2, ended_completed ?_ ?_ ?_,
    except_completed (except_putResult r q b)⟩
  · exact (putFlags_get _ _ _ r).trans (Regs.get_set_self b.main r q.1)
  · exact (putFlags_get _ _ _ p).trans (regsExcept_setReg b r q.1 p hp)
  all_goals simpa [putResult]

/-- A flag no rule marks undocumented is the rule's under both values of `UNDOC_FLAGS` (R8). -/
theorem getLsbD_of_flagsAre {mask : Byte} {fl : FlagBits} (h : FlagsAre mask fl s u) {n : Nat} (hn : n < 8)
    (hm : mask.getLsbD n = false) : u.main.f.getLsbD n = fl.toByte.getLsbD n := by
  obtain ⟨hexact, hany⟩ := h
  cases hp : s.params.undocFlags
  case exact => rw [(hexact hp).1]
  case any => exact (hany hp).1 n hn hm

theorem z_of_flagsAre {fl : FlagBits} (h : FlagsAre 0x28#8 fl s u) : u.main.f.getLsbD 6 = fl.z := by
  rw [getLsbD_of_flagsAre h (by decide) (by decide), BitVec.getLsbD_eq_getElem (by decide), FlagBits.toByte_z]

theorem c_of_flagsAre {fl : FlagBits} (h : FlagsAre 0x28#8 fl s u) : u.main.f.getLsbD 0 = fl.c := by
  rw [getLsbD_of_flagsAre h (by decide) (by decide), BitVec.getLsbD_eq_getElem (by decide), FlagBits.toByte_c]

/-! ### The eight operations on A (R210 to R221) -/

/-- The operation of code `y` (R98). -/
def aluOp (y : Code3) : Byte → State → State :=
  match y with
  | .k0 => aluAdd
  | .k1 => aluAdc
  | .k2 => aluSub
  | .k3 => aluSbc
  | .k4 => aluAnd
  | .k5 => aluXor
  | .k6 => aluOr
  | .k7 => aluCp

theorem exec_aluOnReg (y : Code3) (r : Reg8) (s : State) : exec (aluOnReg y r) s = aluReg (aluOp y) r s := by
  cases y <;> rfl

theorem exec_aluOnMHl (y : Code3) (s : State) : exec (aluOnMHl y) s = aluMHl (aluOp y) s := by
  cases y <;> rfl

theorem exec_aluOnImm (y : Code3) (n : Byte) (s : State) : exec (aluOnImm y n) s = aluImm (aluOp y) n s := by
  cases y <;> rfl

theorem exec_aluOnMXyd (y : Code3) (xy : IndexReg) (d : Byte) (s : State) :
    exec (aluOnMXyd y xy d) s = aluMXyd (aluOp y) xy d s := by
  cases y <;> rfl

theorem exec_aluOnHalf (y : Code3) (xy : IndexReg) (h : Half) (s : State) :
    exec (aluOnHalf y xy h) s = aluHalf (aluOp y) xy h s := by
  cases y <;> rfl

/-- Each operation writes the result and the flags of its rule; CP writes A back as it was (R221). -/
theorem aluOp_eq_putResult (y : Code3) (v : Byte) (s : State) :
    aluOp y v s = putResult .a (ruleAlu y s.params.xySub s.main.a v (carry s)) s := by
  cases y
  case k0 => exact congrArg (putResult .a · s) (add8_eq_ruleAdd8 s.main.a v false)
  case k1 => exact congrArg (putResult .a · s) (add8_eq_ruleAdd8 s.main.a v (flags s).c)
  case k2 => exact congrArg (putResult .a · s) (sub8_eq_ruleSub8 s.params.xySub s.main.a v false)
  case k3 => exact congrArg (putResult .a · s) (sub8_eq_ruleSub8 s.params.xySub s.main.a v (flags s).c)
  case k4 => exact congrArg (fun fl => putResult .a (_, fl) s) (logicFlags_eq_ruleLogic (s.main.a &&& v) true)
  case k5 => exact congrArg (fun fl => putResult .a (_, fl) s) (logicFlags_eq_ruleLogic (s.main.a ^^^ v) false)
  case k6 => exact congrArg (fun fl => putResult .a (_, fl) s) (logicFlags_eq_ruleLogic (s.main.a ||| v) false)
  case k7 =>
    rw [aluOp, aluCp, sub8_eq_ruleSub8]
    rfl

/-- An instruction that is the operation of code `y` on an operand already read. -/
theorem computes_of_aluOp {y : Code3} {v : Byte} (hb : KeepsCore s b)
    (h : exec i s = retire len t (aluOp y v (m1 k b))) :
    ∃ u, exec i s = .next u ∧ AluEffect y v b u ∧ Ended (s.pc + BitVec.ofNat 16 len) k t s u ∧
      Except [.main, .draws] b u := by
  rw [aluOp_eq_putResult] at h
  obtain ⟨u, hu, hres, hregs, hflags, hend, hframe⟩ := computes_of_putResult hb h
  exact ⟨u, hu, ⟨hres, hflags, hregs⟩, hend, hframe⟩

theorem computes_of_aluOnReg (y : Code3) (r : Reg8) (s : State) :
    ∃ u, exec (aluOnReg y r) s = .next u ∧ AluEffect y (s.main.get r) s u ∧ Ended (s.pc + 1#16) 1 4 s u ∧
      Except [.main, .draws] s u :=
  computes_of_aluOp (keepsCore_refl s) (exec_aluOnReg y r s)

theorem computes_of_aluOnImm (y : Code3) (n : Byte) (s : State) :
    ∃ u, exec (aluOnImm y n) s = .next u ∧ AluEffect y n s u ∧ Ended (s.pc + 2#16) 1 7 s u ∧
      Except [.main, .draws] s u :=
  computes_of_aluOp (keepsCore_refl s) (exec_aluOnImm y n s)

theorem computes_of_aluOnHalf (y : Code3) (xy : IndexReg) (h : Half) (s : State) :
    ∃ u, exec (aluOnHalf y xy h) s = .next u ∧ AluEffect y (getHalf xy h s) s u ∧ Ended (s.pc + 2#16) 2 8 s u ∧
      Except [.main, .draws] s u :=
  computes_of_aluOp (keepsCore_refl s) (by rw [exec_aluOnHalf, aluHalf, getHalf_m1])

/-- An instruction that is the operation of code `y` on a byte of memory. -/
theorem computes_of_aluOp_memRead {y : Code3} {a : Word}
    (h : exec i s = retire len t (aluOp y (memRead (m1 k s) a).1 (memRead (m1 k s) a).2)) :
    ∃ u, exec i s = .next u ∧ AluEffect y (memRead s a).1 (memRead s a).2 u ∧
      Ended (s.pc + BitVec.ofNat 16 len) k t s u ∧ Except [.main, .draws] (memRead s a).2 u :=
  computes_of_aluOp (keepsCore_memRead s a) (by rw [h, memRead_m1])

/-! ### INC and DEC (R222 to R228) -/

@[simp] theorem getXy_putFlags (s : State) (mask : Byte) (fl : FlagBits) (xy : IndexReg) :
    getXy xy (putFlags mask fl s) = getXy xy s := by
  cases xy
  · exact putFlags_ix s mask fl
  · exact putFlags_iy s mask fl

@[simp] theorem getHalf_putFlags (s : State) (mask : Byte) (fl : FlagBits) (xy : IndexReg) (g : Half) :
    getHalf xy g (putFlags mask fl s) = getHalf xy g s := by
  rw [getHalf, getXy_putFlags, getHalf]

section
variable {f : Byte → FlagBits → Byte × FlagBits} {up : Bool}

/-- INC or DEC of a register. -/
theorem steps_of_stepReg {r : Reg8} (hf : f = ruleStep up) (h : exec i s = stepReg f r s) :
    ∃ u, exec i s = .next u ∧ u.main.get r = (ruleStep up (s.main.get r) (flags s)).1 ∧ RegsExcept [r] s u ∧
      FlagsAre 0x28#8 (ruleStep up (s.main.get r) (flags s)).2 s u ∧ Ended (s.pc + 1#16) 1 4 s u ∧
      Except [.main, .draws] s u := by
  subst hf
  exact computes_of_putResult (keepsCore_refl s) h

/-- INC or DEC of a half of an index register (R228). -/
theorem steps_of_stepHalf {xy : IndexReg} {g : Half} (hf : f = ruleStep up) (h : exec i s = stepHalf f xy g s) :
    ∃ u, exec i s = .next u ∧ getHalf xy g u = (ruleStep up (getHalf xy g s) (flags s)).1 ∧
      (∀ p, p ≠ g → getHalf xy p u = getHalf xy p s) ∧ (∀ o, o ≠ xy → getXy o u = getXy o s) ∧ RegsExcept [] s u ∧
      FlagsAre 0x28#8 (ruleStep up (getHalf xy g s) (flags s)).2 s u ∧ Ended (s.pc + 2#16) 2 8 s u ∧
      Except [.main, .ix, .iy, .draws] s u := by
  subst hf
  rw [stepHalf, getHalf_m1, flags_m1, setHalf_m1, putFlags_m1, retire_m1] at h
  refine ⟨_, h, ?_, fun p hp => ?_, fun o ho => ?_, fun p _ => ?_, ?_, ended_completed ?_ ?_ ?_, except_completed ?_⟩
  · rw [getHalf_completed, getHalf_putFlags, getHalf_setHalf]
  · rw [getHalf_completed, getHalf_putFlags, getHalf_setHalf_of_ne s xy _ hp]
  · rw [getXy_completed, getXy_putFlags, getXy_setHalf_of_ne s g _ ho]
  · exact (putFlags_get _ _ _ p).trans (congrArg (Regs.get · p) (setHalf_main s xy g _))
  · exact flagsAre_congr (flagsAre_putFlags _ _ _) (setHalf_params s xy g _) (setHalf_draws s xy g _)
  · simp
  · simp
  · simp
  · exact except_trans (except_mono (except_setHalf s xy g _) (by decide))
      (except_mono (except_putFlags _ _ _) (by decide))

theorem except_stepMem (f : Byte → FlagBits → Byte × FlagBits) (a : Word) (s : State) :
    Except [.main, .mem, .calls, .draws] (memRead s a).2 (stepMem f a s) :=
  except_trans (except_mono (except_memWrite _ _ _) (by decide)) (except_mono (except_putFlags _ _ _) (by decide))

theorem stores1_stepMem (f : Byte → FlagBits → Byte × FlagBits) (a : Word) (s : State) :
    Stores1 a (f (memRead s a).1 (flags s)).1 (memRead s a).2 (stepMem f a s) := by
  rw [← flags_memRead s a]
  exact stores1_of_except (stores1_memWrite _ _ _) (except_putFlags _ _ _) (by decide) (by decide)

theorem flagsAre_stepMem (f : Byte → FlagBits → Byte × FlagBits) (a : Word) (s : State) :
    FlagsAre 0x28#8 (f (memRead s a).1 (flags s)).2 (memRead s a).2 (stepMem f a s) := by
  rw [← flags_memRead s a]
  exact flagsAre_congr (flagsAre_putFlags _ _ _) (memWrite_params _ _ _) (memWrite_draws _ _ _)

theorem stepMem_get (f : Byte → FlagBits → Byte × FlagBits) (a : Word) (s : State) (p : Reg8) :
    (stepMem f a s).main.get p = s.main.get p := by
  rw [stepMem, putFlags_get, memWrite_main, memRead_main]

/-- INC or DEC of a byte in memory. -/
theorem steps_of_stepMem {a : Word} (hf : f = ruleStep up) (h : exec i s = retire len t (stepMem f a (m1 k s))) :
    ∃ u, exec i s = .next u ∧
      Stores1 a (ruleStep up (memRead s a).1 (flags s)).1 (memRead s a).2 u ∧ RegsExcept [] s u ∧
      FlagsAre 0x28#8 (ruleStep up (memRead s a).1 (flags s)).2 (memRead s a).2 u ∧
      Ended (s.pc + BitVec.ofNat 16 len) k t s u ∧ Except [.main, .mem, .calls, .draws] (memRead s a).2 u := by
  subst hf
  rw [stepMem_m1, retire_m1] at h
  exact ⟨_, h, stores1_stepMem _ a s, fun p _ => stepMem_get _ a s p, flagsAre_stepMem _ a s,
    ended_completed (stepMem_pc s _ a) (stepMem_r s _ a) (stepMem_cycles s _ a),
    except_completed (except_stepMem _ a s)⟩

end

/-! ### The laws of the group (L1, L2, L4) -/

theorem ruleAdd8_fst (a v : Byte) : (ruleAdd8 a v 0).1 = a + v := BitVec.eq_of_toNat_eq (by simp [ruleAdd8])

theorem ruleSub8_fst (xy : Config.XySub) (a v : Byte) : (ruleSub8 xy a v 0).1 = a - v := BitVec.sub_zero (a - v)

theorem ruleSub8_z (xy : Config.XySub) (a v : Byte) : (ruleSub8 xy a v 0).2.z = true ↔ a = v := by
  have hz : (ruleSub8 xy a v 0).2.z = ((ruleSub8 xy a v 0).1 == 0#8) := (beq_zero_eq_decide_toNat _).symm
  rw [hz, beq_iff_eq, ruleSub8_fst, BitVec.sub_eq_iff_eq_add, BitVec.zero_add]

/-- `ADD A,n` then `SUB n` restores A (L1). -/
theorem addN_subN_restores (s : State) (n : Byte) :
    ∃ u v, exec (.addN n) s = .next u ∧ exec (.subN n) u = .next v ∧ v.main.a = s.main.a := by
  obtain ⟨u, hu, ⟨hadd, -, -⟩, -, -⟩ := computes_of_aluOnImm .k0 n s
  obtain ⟨v, hv, ⟨hsub, -, -⟩, -, -⟩ := computes_of_aluOnImm .k2 n u
  refine ⟨u, v, hu, hv, ?_⟩
  calc v.main.a = u.main.a - n := hsub.trans (ruleSub8_fst _ _ _)
    _ = s.main.a + n - n := congrArg (· - n) (hadd.trans (ruleAdd8_fst _ _))
    _ = s.main.a := BitVec.add_sub_cancel _ _

/-- `CP n` keeps A, and compares it with `n` in Z and C (L2). -/
theorem cpN_compares (s : State) (n : Byte) :
    ∃ u, exec (.cpN n) s = .next u ∧ u.main.a = s.main.a ∧ (u.main.f.getLsbD 6 = true ↔ s.main.a = n) ∧
      (u.main.f.getLsbD 0 = true ↔ s.main.a.toNat < n.toNat) := by
  obtain ⟨u, hu, ⟨ha, hflags, -⟩, -, -⟩ := computes_of_aluOnImm .k7 n s
  refine ⟨u, hu, ha, ?_, ?_⟩
  · rw [z_of_flagsAre hflags]
    exact ruleSub8_z .operand s.main.a n
  · rw [c_of_flagsAre hflags]
    exact decide_eq_true_iff

/-- DAA keeps a set carry (L4). -/
theorem daa_keeps_carry (s : State) :
    ∃ u, exec .daa s = .next u ∧ (s.main.f.getLsbD 0 = true → u.main.f.getLsbD 0 = true) := by
  obtain ⟨u, hu, -, -, hflags, -, -⟩ :=
    computes_of_putResult (i := .daa) (r := .a) (q := daa s.main.a (flags s)) (keepsCore_refl s) rfl
  refine ⟨u, hu, fun hs => ?_⟩
  rw [c_of_flagsAre hflags]
  exact Bool.or_eq_true_iff.mpr (.inl hs)

/-! ### The settlements -/

/-- Settles O38: each of the eight is `aluOp` of its code, on the operand its form reads. -/
theorem aluOperations : Obligations.AluOperations := by
  unfold Obligations.AluOperations
  refine ⟨⟨fun y r => ?_, fun y => ?_, fun y n => ?_, fun y xy d => ?_, fun y xy h => ?_⟩,
    fun y s => ⟨fun r => computes_of_aluOnReg y r s, fun n => computes_of_aluOnImm y n s,
      fun xy h => computes_of_aluOnHalf y xy h s⟩,
    fun y s => ⟨computes_of_aluOp_memRead (exec_aluOnMHl y s),
      fun xy d => computes_of_aluOp_memRead (exec_aluOnMXyd y xy d s)⟩⟩
  · cases y <;> exact row_of_encode rfl rfl
  · cases y <;> exact row_of_encode rfl rfl
  · cases y <;> exact row_of_encode rfl rfl
  · rw [pre_eq_byte]
    cases y <;> exact row_of_encode rfl rfl
  · rw [pre_eq_byte, halfBits_eq_code]
    cases y <;> exact row_of_encode rfl rfl

/-- Settles O39, law by law. -/
theorem arithmeticLaws : Obligations.ArithmeticLaws := by
  unfold Obligations.ArithmeticLaws
  exact fun s n => ⟨addN_subN_restores s n, cpN_compares s n, daa_keeps_carry s⟩

/-- Settles O40: the register forms are `steps_of_stepReg`, the index halves `steps_of_stepHalf`. -/
theorem incDecRegister : Obligations.IncDecRegister := by
  unfold Obligations.IncDecRegister
  exact ⟨fun r => row_of_encode rfl rfl, fun r => row_of_encode rfl rfl,
    fun xy h => row_of_encode (by rw [pre_eq_byte, halfBits_eq_code]; rfl) rfl,
    fun xy h => row_of_encode (by rw [pre_eq_byte, halfBits_eq_code]; rfl) rfl, fun s =>
    ⟨fun r => ⟨steps_of_stepReg inc8_eq_ruleStep rfl, steps_of_stepReg dec8_eq_ruleStep rfl⟩,
      fun xy h => ⟨steps_of_stepHalf inc8_eq_ruleStep rfl, steps_of_stepHalf dec8_eq_ruleStep rfl⟩⟩⟩

/-- Settles O41: each form is `steps_of_stepMem` at its own address. -/
theorem incDecMemory : Obligations.IncDecMemory := by
  unfold Obligations.IncDecMemory
  exact ⟨row_of_encode rfl rfl, row_of_encode rfl rfl, fun xy d => row_of_encode (by rw [pre_eq_byte]; rfl) rfl,
    fun xy d => row_of_encode (by rw [pre_eq_byte]; rfl) rfl, fun s =>
    ⟨steps_of_stepMem inc8_eq_ruleStep rfl, steps_of_stepMem dec8_eq_ruleStep rfl,
      fun xy d => ⟨steps_of_stepMem inc8_eq_ruleStep rfl, steps_of_stepMem dec8_eq_ruleStep rfl⟩⟩⟩

end Sys2Proof.Machine
end

section
/-! PROOFS. The general-purpose arithmetic and CPU control group (44_general_control.md R240 to R253) and the ignored
index prefix (30_encoding.md R104), with the settlements of O42 to O45. An arithmetic instruction writes a result and its
flags (`computes_of_putResult`); a control instruction writes control fields of its own and ends as every other does
(`retire_m1`, `ended_completed`), HALT apart. -/

namespace Sys2Proof.Machine

open Claims

variable {i : Instr} {s : State} {k len t : Nat}

/-! ### DAA (R240) -/

theorem daaLow_eq_decide (a : Byte) (old : FlagBits) : daaLow a old = decide (old.h = true ∨ a.toNat % 16 > 9) := by
  rw [Bool.decide_or, Bool.decide_eq_true]
  rfl

theorem daaHigh_eq_decide (a : Byte) (old : FlagBits) : daaHigh a old = decide (old.c = true ∨ a.toNat > 0x99) := by
  rw [Bool.decide_or, Bool.decide_eq_true]
  rfl

/-- The two digits' corrections share no bit, so joining them is adding them. -/
theorem daaCorrection_eq_ruleDaaT (a : Byte) (old : FlagBits) : daaCorrection a old = BitVec.ofNat 8 (ruleDaaT a old) := by
  simp only [daaCorrection, ruleDaaT, daaLow_eq_decide, daaHigh_eq_decide, decide_eq_true_eq]
  split <;> split <;> rfl

/-- No correction borrows more than 256 from A. -/
theorem ruleDaaT_lt (a : Byte) (old : FlagBits) : ruleDaaT a old < 256 := by
  rw [ruleDaaT]
  split <;> split <;> decide

theorem sub_ofNat_eq_mod (a : Byte) {n : Nat} (hn : n < 256) :
    a - BitVec.ofNat 8 n = BitVec.ofNat 8 ((a.toNat + 256 - n) % 256) := by
  apply BitVec.eq_of_toNat_eq
  rw [BitVec.toNat_sub, BitVec.toNat_ofNat, BitVec.toNat_ofNat]
  omega

theorem add_ofNat_eq_mod (a : Byte) (n : Nat) : a + BitVec.ofNat 8 n = BitVec.ofNat 8 ((a.toNat + n) % 256) :=
  BitVec.eq_of_toNat_eq (by simp)

theorem daa_eq_ruleDaa : daa = ruleDaa := by
  funext a old
  simp only [daa, ruleDaa, daaCorrection_eq_ruleDaaT, sub_ofNat_eq_mod a (ruleDaaT_lt a old), add_ofNat_eq_mod,
    beq_zero_eq_decide_toNat, parity_eq_ruleParity, daaHigh_eq_decide]
  cases old.n
  case false => rfl
  case true =>
    simp only [Bool.decide_and, Bool.decide_eq_true]
    rfl

/-! ### CPL and NEG (R241, R251) -/

/-- NEG's result and flags as R251 writes them. -/
def ruleNeg (v : Byte) : Byte × FlagBits :=
  let res := BitVec.ofNat 8 ((256 - v.toNat) % 256)
  (res, ⟨res.getLsbD 7, decide (res.toNat = 0), res.getLsbD 5, decide (v.toNat % 16 ≠ 0), res.getLsbD 3,
    decide (v.toNat = 128), true, decide (v.toNat ≠ 0)⟩)

theorem neg8_eq_ruleNeg : neg8 = ruleNeg := by
  funext v
  have hres : BitVec.ofInt 8 (0 - (v.toNat : Int)) = BitVec.ofNat 8 ((256 - v.toNat) % 256) := by
    apply BitVec.eq_of_toNat_eq
    rw [BitVec.toNat_ofInt, BitVec.toNat_ofNat]
    omega
  simp only [neg8, ruleNeg, hres, bne, beq_eq_decide_toNat, ne_eq, decide_not]
  rfl

theorem not_eq_ofNat_sub (a : Byte) : ~~~a = BitVec.ofNat 8 (255 - a.toNat) := by
  apply BitVec.eq_of_toNat_eq
  rw [BitVec.toNat_not, BitVec.toNat_ofNat]
  omega

theorem cplFlags_not (a : Byte) (old : FlagBits) :
    cplFlags (~~~a) old = ⟨old.s, old.z, !a.getLsbD 5, true, !a.getLsbD 3, old.pv, true, old.c⟩ := by
  simp [cplFlags]

/-- An instruction that negates A (R251). -/
theorem negates_of_negateA (h : exec i s = negateA s) :
    ∃ u, exec i s = .next u ∧ u.main.a = (ruleNeg s.main.a).1 ∧ RegsExcept [.a] s u ∧
      FlagsAre 0x28#8 (ruleNeg s.main.a).2 s u ∧ Ended (s.pc + 2#16) 2 8 s u ∧ Except [.main, .draws] s u := by
  rw [← neg8_eq_ruleNeg]
  exact computes_of_putResult (r := .a) (keepsCore_refl s) h

/-! ### An instruction that writes control fields, or none -/

/-- An instruction that changes nothing but PC, R, the cycle count and the status (R244, R252). -/
theorem idles_of_retire (h : exec i s = retire len t (m1 k s)) :
    ∃ u, exec i s = .next u ∧ Ended (s.pc + BitVec.ofNat 16 len) k t s u ∧ Except [] s u :=
  ⟨_, h.trans (retire_m1 k len t s), ended_completed rfl rfl rfl, except_completed (except_refl [] s)⟩

theorem except_im (s : State) (m : IntMode) : Except [.im] s { s with im := m } := by
  intro f hf
  cases f <;> simp [Field.same, peek] at hf ⊢

theorem except_halted (s : State) (v : Bool) : Except [.halted] s { s with halted := v } := by
  intro f hf
  cases f <;> simp [Field.same, peek] at hf ⊢

theorem except_afterPrefix (s : State) (v : Bool) : Except [.afterPrefix] s { s with afterPrefix := v } := by
  intro f hf
  cases f <;> simp [Field.same, peek] at hf ⊢

theorem except_eiInhibit (s : State) (v : Bool) : Except [.eiInhibit] s { s with eiInhibit := v } := by
  intro f hf
  cases f <;> simp [Field.same, peek] at hf ⊢

theorem except_iffs (s : State) (v w : Bool) : Except [.iff1, .iff2] s { s with iff1 := v, iff2 := w } := by
  intro f hf
  cases f <;> simp [Field.same, peek] at hf ⊢

/-- An instruction that writes IM (R248 to R250, R253). -/
theorem modes_of_setIntMode {m : IntMode} (h : exec i s = setIntMode m s) :
    ∃ u, exec i s = .next u ∧ u.im = m ∧ Ended (s.pc + 2#16) 2 8 s u ∧ Except [.im] s u :=
  ⟨_, h.trans (retire_m1 2 2 8 { s with im := m }), rfl, ended_completed rfl rfl rfl, except_completed (except_im s m)⟩

/-- HALT's status is `Halted`, so its end is not the common one (R245, R403). -/
theorem halt_halts (s : State) :
    ∃ u, exec .halt s = .next u ∧ u.halted = true ∧ u.status = .halted ∧ u.pc = s.pc + 1#16 ∧ Counted 1 s u ∧
      u.cycles = s.cycles + 4 ∧ Except [.halted] s u :=
  ⟨_, rfl, rfl, rfl, rfl, ⟨refresh_mod 1 s.r, refresh_bit7 1 s.r⟩, rfl, except_end (except_halted s true)⟩

/-- DI clears both flip-flops (R246). -/
theorem di_clears_iffs (s : State) :
    ∃ u, exec .di s = .next u ∧ u.iff1 = false ∧ u.iff2 = false ∧ Ended (s.pc + 1#16) 1 4 s u ∧
      Except [.iff1, .iff2] s u :=
  ⟨_, retire_m1 1 1 4 { s with iff1 := false, iff2 := false }, rfl, rfl, ended_completed rfl rfl rfl,
    except_completed (except_iffs s false false)⟩

/-- EI sets both flip-flops and defers acceptance (R247). -/
theorem ei_sets_iffs (s : State) :
    ∃ u, exec .ei s = .next u ∧ u.iff1 = true ∧ u.iff2 = true ∧ u.eiInhibit = true ∧ Ended (s.pc + 1#16) 1 4 s u ∧
      Except [.iff1, .iff2, .eiInhibit] s u :=
  ⟨_, retire_m1 1 1 4 { s with iff1 := true, iff2 := true, eiInhibit := true }, rfl, rfl, rfl,
    ended_completed rfl rfl rfl,
    except_completed (except_trans (except_mono (except_iffs s true true) (by decide))
      (except_mono (except_eiInhibit _ true) (by decide)))⟩

/-- The ignored index prefix sets `after_prefix` (R104). -/
theorem ignoredIndexPrefix_sets_afterPrefix (xy : IndexReg) (s : State) :
    ∃ u, exec (.ignoredIndexPrefix xy) s = .next u ∧ u.afterPrefix = true ∧ Ended (s.pc + 1#16) 1 4 s u ∧
      Except [.afterPrefix] s u :=
  ⟨_, retire_m1 1 1 4 { s with afterPrefix := true }, rfl, ended_completed rfl rfl rfl,
    except_completed (except_afterPrefix s true)⟩

/-! ### The settlements -/

/-- Settles O42: the model's DAA is the rule's, and DAA writes it. -/
theorem decimalAdjust : Obligations.DecimalAdjust := by
  unfold Obligations.DecimalAdjust
  refine ⟨row_of_encode rfl rfl, fun s => ?_⟩
  rw [← daa_eq_ruleDaa]
  exact computes_of_putResult (i := .daa) (r := .a) (keepsCore_refl s) rfl

/-- Settles O43: each writes A, which CCF and SCF write back as it was, and its flags. -/
theorem accumulatorAndCarry : Obligations.AccumulatorAndCarry := by
  unfold Obligations.AccumulatorAndCarry
  refine ⟨row_of_encode rfl rfl, row_of_encode rfl rfl, row_of_encode rfl rfl, row_of_encode rfl rfl,
    fun y => row_of_encode rfl rfl, fun s => ⟨?cpl, ?ccf, ?scf, negates_of_negateA rfl, fun y => negates_of_negateA rfl⟩⟩
  case cpl =>
    rw [← not_eq_ofNat_sub, ← cplFlags_not]
    exact computes_of_putResult (i := .cpl) (r := .a) (q := (~~~s.main.a, cplFlags (~~~s.main.a) (flags s)))
      (keepsCore_refl s) rfl
  case ccf =>
    exact computes_of_putResult (i := .ccf) (r := .a) (q := (s.main.a, ccfFlags s.main.a (flags s)))
      (keepsCore_refl s) rfl
  case scf =>
    exact computes_of_putResult (i := .scf) (r := .a) (q := (s.main.a, scfFlags s.main.a (flags s)))
      (keepsCore_refl s) rfl

/-- Settles O44: the prefix is `ignoredIndexPrefix_sets_afterPrefix`, the others are `idles_of_retire`. -/
theorem noOperations : Obligations.NoOperations := by
  unfold Obligations.NoOperations
  exact ⟨row_of_encode rfl rfl, fun q => row_of_encode rfl rfl, fun y z => row_of_encode rfl rfl,
    fun y z => row_of_encode rfl rfl, fun p z => row_of_encode rfl rfl, fun p w => row_of_encode rfl rfl,
    fun xy => row_of_encode (by rw [pre_eq_byte]; rfl) rfl, fun s =>
    ⟨idles_of_retire rfl, fun q => idles_of_retire rfl, fun y z => idles_of_retire rfl,
      fun y z => idles_of_retire rfl, fun p z => idles_of_retire rfl, fun p w => idles_of_retire rfl,
      fun xy => ignoredIndexPrefix_sets_afterPrefix xy s⟩⟩

/-- Settles O45: every encoding of IM is `modes_of_setIntMode`, at the mode its code gives. -/
theorem interruptControl : Obligations.InterruptControl := by
  unfold Obligations.InterruptControl
  exact ⟨row_of_encode rfl rfl, row_of_encode rfl rfl, row_of_encode rfl rfl, row_of_encode rfl rfl,
    row_of_encode rfl rfl, row_of_encode rfl rfl, fun y => row_of_encode rfl rfl, fun s =>
    ⟨halt_halts s, di_clears_iffs s, ei_sets_iffs s, modes_of_setIntMode rfl, modes_of_setIntMode rfl,
      modes_of_setIntMode rfl, modes_of_setIntMode rfl, modes_of_setIntMode rfl, modes_of_setIntMode rfl,
      modes_of_setIntMode rfl, modes_of_setIntMode rfl⟩⟩

end Sys2Proof.Machine
end

section
/-! PROOFS. The 16-bit arithmetic group (45_alu16.md R260 to R267), with the settlements of O46 and O47. The flag computations
of the model are those the rules write over numbers; a sum or a difference then goes to HL or to an index register with its
flags to F, and INC and DEC are the writes of a pair or an index register that the loads are (`loads_of_setPair`,
`loads_of_setXy`). -/

namespace Sys2Proof.Machine

open Claims

variable {i : Instr} {s : State} {k len t : Nat}

/-! ### The flag computations as the rules write them -/

/-- A word compared with 0 as a word and as a number. -/
theorem word_beq_zero_eq_decide_toNat (w : Word) : (w == 0#16) = decide (w.toNat = 0) :=
  decide_eq_decide.mpr BitVec.toNat_eq

theorem outside16_eq_decide (v : Int) : outside16 v = decide (¬ (-32768 ≤ v ∧ v ≤ 32767)) := by
  rw [outside16, ← Bool.decide_or, decide_eq_decide]
  omega

/-- A sum taken modulo 65536 before it is made a word. -/
theorem ofNat_mod_word (n : Nat) : BitVec.ofNat 16 (n % 65536) = BitVec.ofNat 16 n :=
  BitVec.eq_of_toNat_eq (by simp)

/-- A difference of words, over numbers (R263). -/
theorem ofInt_sub_borrow_word (a v : Word) (c : Bool) :
    BitVec.ofInt 16 ((a.toNat : Int) - v.toNat - c.toNat) = a - v - BitVec.ofNat 16 c.toNat := by
  simp [sub_eq_add_neg, BitVec.ofInt_add, BitVec.ofInt_neg]

theorem add16_eq_ruleAdd16 : add16 = ruleAdd16 := by
  funext a v old
  simp only [add16, ruleAdd16, ofNat_mod_word]
  rfl

theorem adc16_eq_ruleAdc16 (a v : Word) (c : Bool) : adc16 a v c = ruleAdc16 a v c.toNat := by
  simp only [adc16, ruleAdc16, ofNat_mod_word, word_beq_zero_eq_decide_toNat, outside16_eq_decide]
  rfl

theorem sbc16_eq_ruleSbc16 (a v : Word) (c : Bool) : sbc16 a v c = ruleSbc16 a v c.toNat := by
  simp only [sbc16, ruleSbc16, ofInt_sub_borrow_word, word_beq_zero_eq_decide_toNat, outside16_eq_decide]
  rfl

/-! ### A word result and its flags -/

section
variable {q : Word × FlagBits}

/-- An instruction that writes a result to HL and its flags to F. -/
theorem computes_of_setPair_hl (h : exec i s = retire len t (putFlags xyMask q.2 (setPair .hl q.1 (m1 k s)))) :
    ∃ u, exec i s = .next u ∧ getPair .hl u = q.1 ∧ RegsExcept [.h, .l] s u ∧ FlagsAre 0x28#8 q.2 s u ∧
      Ended (s.pc + BitVec.ofNat 16 len) k t s u ∧ Except [.main, .draws] s u := by
  rw [setPair_m1, putFlags_m1, retire_m1] at h
  refine ⟨_, h, ?_, fun p hp => ?_, flagsAre_congr (flagsAre_putFlags _ _ _) rfl rfl,
    ended_completed (putFlags_pc _ _ _) (putFlags_r _ _ _) (putFlags_cycles _ _ _), except_completed ?_⟩
  · rw [getPair_completed, getPair_putFlags, getPair_setPair]
  · exact (putFlags_get _ _ _ p).trans (regsExcept_setPair_hl s q.1 p hp)
  · exact except_trans (except_mono (except_setPair_hl s q.1) (by decide)) (except_putFlags _ _ _)

/-- An instruction that writes a result to an index register and its flags to F. -/
theorem computes_of_setXy {xy : IndexReg}
    (h : exec i s = retire len t (putFlags xyMask q.2 (setXy xy q.1 (m1 k s)))) :
    ∃ u, exec i s = .next u ∧ getXy xy u = q.1 ∧ (∀ o, o ≠ xy → getXy o u = getXy o s) ∧ RegsExcept [] s u ∧
      FlagsAre 0x28#8 q.2 s u ∧ Ended (s.pc + BitVec.ofNat 16 len) k t s u ∧
      Except [.main, .ix, .iy, .draws] s u := by
  rw [setXy_m1, putFlags_m1, retire_m1] at h
  refine ⟨_, h, ?_, fun o ho => ?_, fun p _ => ?_,
    flagsAre_congr (flagsAre_putFlags _ _ _) (setXy_params s xy q.1) (setXy_draws s xy q.1),
    ended_completed (by simp) (by simp) (by simp), except_completed ?_⟩
  · rw [getXy_completed, getXy_putFlags, getXy_setXy]
  · rw [getXy_completed, getXy_putFlags, getXy_setXy_of_ne s q.1 ho]
  · exact (putFlags_get _ _ _ p).trans (congrArg (Regs.get · p) (setXy_main s xy q.1))
  · exact except_trans (except_mono (except_setXy s xy q.1) (by decide))
      (except_mono (except_putFlags _ _ _) (by decide))

end

/-! ### INC and DEC -/

/-- DEC adds 65535 modulo 65536 (R266, R267). -/
theorem toNat_sub_one_word (w : Word) : (w - 1#16).toNat = (w.toNat + 65535) % 65536 := by
  rw [BitVec.toNat_sub, Nat.add_comm]
  rfl

section
variable {w : Word} {n : Nat}

/-- An instruction that writes a pair with what the pair held, plus `n` modulo 65536. -/
theorem steps_of_setPair {rr : RegPair} (hw : w.toNat = ((getPair rr s).toNat + n) % 65536)
    (h : exec i s = retire len t (setPair rr w (m1 k s))) :
    ∃ u, exec i s = .next u ∧ (getPair rr u).toNat = ((getPair rr s).toNat + n) % 65536 ∧
      (∀ q, q ≠ rr → getPair q u = getPair q s) ∧ u.main.a = s.main.a ∧ NoFlags s u ∧
      Ended (s.pc + BitVec.ofNat 16 len) k t s u ∧ Except [.main, .sp] s u := by
  obtain ⟨u, hu, hself, hrest⟩ := loads_of_setPair (keepsCore_refl s) rfl (h.trans (by rw [setPair_m1]))
  exact ⟨u, hu, hself ▸ hw, hrest⟩

/-- An instruction that writes an index register with what it held, plus `n` modulo 65536. -/
theorem steps_of_setXy {xy : IndexReg} (hw : w.toNat = ((getXy xy s).toNat + n) % 65536)
    (h : exec i s = retire len t (setXy xy w (m1 k s))) :
    ∃ u, exec i s = .next u ∧ (getXy xy u).toNat = ((getXy xy s).toNat + n) % 65536 ∧
      (∀ o, o ≠ xy → getXy o u = getXy o s) ∧ Ended (s.pc + BitVec.ofNat 16 len) k t s u ∧
      Except [.ix, .iy] s u := by
  obtain ⟨u, hu, hself, hrest⟩ := loads_of_setXy (keepsCore_refl s) (fun _ => rfl) (h.trans (by rw [setXy_m1]))
  exact ⟨u, hu, hself ▸ hw, hrest⟩

end

/-! ### The settlements -/

/-- Settles O46: the model's sums and differences are the rules', written to HL (`computes_of_setPair_hl`) or to an index
register (`computes_of_setXy`). -/
theorem wordArithmetic : Obligations.WordArithmetic := by
  unfold Obligations.WordArithmetic
  refine ⟨⟨fun rr => row_of_encode rfl rfl, fun xy pp => row_of_encode (by rw [pre_eq_byte]; rfl) rfl, fun s =>
      ⟨fun rr => ?addHl, fun xy pp => ?addXy⟩⟩,
    fun rr => row_of_encode rfl rfl, fun rr => row_of_encode rfl rfl, fun rr s => ⟨?adc, ?sbc⟩⟩
  case addHl =>
    rw [← add16_eq_ruleAdd16]
    exact computes_of_setPair_hl (by rw [exec, execAddHlRr, getPair_m1]; rfl)
  case addXy =>
    rw [← add16_eq_ruleAdd16]
    exact computes_of_setXy (by rw [exec, execAddXyRr, getXy_m1, getIndexPair_m1]; rfl)
  case adc =>
    rw [carry, ← adc16_eq_ruleAdc16]
    exact computes_of_setPair_hl (by rw [exec, execAdcHlRr, getPair_m1]; rfl)
  case sbc =>
    rw [carry, ← sbc16_eq_ruleSbc16]
    exact computes_of_setPair_hl (by rw [exec, execSbcHlRr, getPair_m1]; rfl)

/-- Settles O47: the pairs are `steps_of_setPair`, the index registers `steps_of_setXy`. -/
theorem wordIncDec : Obligations.WordIncDec := by
  unfold Obligations.WordIncDec
  exact ⟨fun rr => row_of_encode rfl rfl, fun rr => row_of_encode rfl rfl,
    fun xy => row_of_encode (by rw [pre_eq_byte]; rfl) rfl, fun xy => row_of_encode (by rw [pre_eq_byte]; rfl) rfl,
    fun s =>
    ⟨fun rr =>
      ⟨steps_of_setPair (BitVec.toNat_add _ 1#16) (by rw [exec, execIncRr, getPair_m1]),
        steps_of_setPair (toNat_sub_one_word _) (by rw [exec, execDecRr, getPair_m1])⟩,
      fun xy =>
      ⟨steps_of_setXy (BitVec.toNat_add _ 1#16) (by rw [exec, execIncXy, getXy_m1]),
        steps_of_setXy (toNat_sub_one_word _) (by rw [exec, execDecXy, getXy_m1])⟩⟩⟩

end Sys2Proof.Machine
end

section
/-! PROOFS. The rotate and shift group (46_rotate_shift.md R270 to R285), with the settlements of O48 to O50. The
model joins bit fields where the rules compute over numbers; the first part says that the two agree. A form on a
register writes a result and its flags (`computes_of_putResult`); a form on memory, RLD and RRD among them, is a read,
a store and the flags (`stepMem`), and may then write a register. -/

namespace Sys2Proof.Machine

open Claims

variable {i : Instr} {s b : State} {k len t : Nat} {a : Word} {q : Byte × FlagBits}

/-! ### Bit fields as numbers -/

/-- Two fields share no bit, so joining them is adding them. -/
theorem toNat_append_eq_add {m n : Nat} (hi : BitVec m) (lo : BitVec n) :
    (hi ++ lo).toNat = hi.toNat * 2 ^ n + lo.toNat := by
  rw [BitVec.toNat_append, ← Nat.shiftLeft_add_eq_or_of_lt lo.isLt, Nat.shiftLeft_eq]

theorem toNat_bit7 (v : Byte) : (v.getLsbD 7).toNat = v.toNat / 128 := by
  rw [BitVec.getLsbD, Nat.toNat_testBit]
  omega

theorem toNat_bit0 (v : Byte) : (v.getLsbD 0).toNat = v.toNat % 2 := by
  rw [BitVec.getLsbD, Nat.toNat_testBit, pow_zero, Nat.div_one]

theorem bit0_eq_decide_toNat (v : Byte) : v.getLsbD 0 = decide (v.toNat % 2 = 1) := Nat.testBit_zero v.toNat

/-- A left form doubles, modulo 256, and adds the bit moved in. -/
theorem shiftLeftIn_eq_ofNat (v : Byte) (c : Bool) :
    shiftLeftIn v c = BitVec.ofNat 8 ((2 * v.toNat + c.toNat) % 256) := by
  have hc := c.toNat_le
  apply BitVec.eq_of_toNat_eq
  rw [shiftLeftIn, toNat_append_eq_add, BitVec.extractLsb'_toNat, BitVec.toNat_ofBool, BitVec.toNat_ofNat]
  omega

/-- A right form halves and adds 128 times the bit moved in. -/
theorem shiftRightIn_eq_ofNat (v : Byte) (c : Bool) :
    shiftRightIn v c = BitVec.ofNat 8 (v.toNat / 2 + 128 * c.toNat) := by
  have hc := c.toNat_le
  apply BitVec.eq_of_toNat_eq
  rw [shiftRightIn, toNat_append_eq_add, BitVec.extractLsb'_toNat, BitVec.toNat_ofBool, BitVec.toNat_ofNat]
  omega

theorem toNat_hiNib (v : Byte) : (hiNib v).toNat = v.toNat / 16 := by
  rw [hiNib, BitVec.extractLsb'_toNat]
  omega

theorem toNat_loNib (v : Byte) : (loNib v).toNat = v.toNat % 16 := BitVec.extractLsb'_toNat 0 4 v

theorem joinNibbles_eq_ofNat (hi lo : BitVec 4) : joinNibbles hi lo = BitVec.ofNat 8 (hi.toNat * 16 + lo.toNat) := by
  have hhi := hi.isLt
  apply BitVec.eq_of_toNat_eq
  rw [joinNibbles, toNat_append_eq_add, BitVec.toNat_ofNat]
  omega

/-! ### The computations as the rules write them -/

/-- The rotate or shift of code `y` (R99). -/
def rotOp (y : Code3) : Byte → Bool → Byte × Bool :=
  match y with
  | .k0 => rlc8
  | .k1 => rrc8
  | .k2 => rl8
  | .k3 => rr8
  | .k4 => sla8
  | .k5 => sra8
  | .k6 => sll8
  | .k7 => srl8

theorem rotOp_eq_ruleRot (y : Code3) (v : Byte) (c : Bool) : rotOp y v c = ruleRot y v c.toNat := by
  have left (x : Bool) : (shiftLeftIn v x, v.getLsbD 7) =
      (BitVec.ofNat 8 ((2 * v.toNat + x.toNat) % 256), decide (128 ≤ v.toNat)) := by
    rw [shiftLeftIn_eq_ofNat, bit7_eq_decide_toNat]
  have right (x : Bool) : (shiftRightIn v x, v.getLsbD 0) =
      (BitVec.ofNat 8 (v.toNat / 2 + 128 * x.toNat), decide (v.toNat % 2 = 1)) := by
    rw [shiftRightIn_eq_ofNat, bit0_eq_decide_toNat]
  cases y
  case k0 => exact (left (v.getLsbD 7)).trans (by rw [toNat_bit7]; rfl)
  case k1 => exact (right (v.getLsbD 0)).trans (by rw [toNat_bit0]; rfl)
  case k2 => exact left c
  case k3 => exact right c
  case k4 => exact left false
  case k5 => exact (right (v.getLsbD 7)).trans (by rw [toNat_bit7]; rfl)
  case k6 => exact left true
  case k7 => exact right false

theorem rotFlags_eq_ruleRotFlags : rotFlags = ruleRotFlags := by
  funext res c
  rw [rotFlags, ruleRotFlags, beq_zero_eq_decide_toNat, parity_eq_ruleParity]

theorem digitFlags_eq_ruleTestFlags : digitFlags = ruleTestFlags := by
  funext res old
  rw [digitFlags, ruleTestFlags, beq_zero_eq_decide_toNat, parity_eq_ruleParity]

/-- The result and the flags of the rotate or shift of code `y` (R275 to R283). -/
def ruleRotStep (y : Code3) (v : Byte) (old : FlagBits) : Byte × FlagBits :=
  let q := ruleRot y v old.c.toNat
  (q.1, ruleRotFlags q.1 q.2)

theorem rotMem_eq_stepMem (y : Code3) (a : Word) (s : State) :
    rotMem (rotOp y) a s = ((ruleRotStep y (memRead s a).1 (flags s)).1, stepMem (ruleRotStep y) a s) := by
  simp only [rotMem, stepMem, ruleRotStep, rotOp_eq_ruleRot, rotFlags_eq_ruleRotFlags, flags_memRead]

/-! ### The accumulator and the register forms -/

/-- RLCA, RRCA, RLA and RRA keep S, Z and PV (R270). -/
theorem rotates_of_rotAcc {y : Code3} (h : exec i s = rotAcc (rotOp y) s) :
    ∃ u, exec i s = .next u ∧ u.main.a = (ruleRot y s.main.a (carry s)).1 ∧ RegsExcept [.a] s u ∧
      FlagsAre 0x28#8 (accRotFlags (ruleRot y s.main.a (carry s)).1 (ruleRot y s.main.a (carry s)).2 (flags s)) s u ∧
      Ended (s.pc + 1#16) 1 4 s u ∧ Except [.main, .draws] s u := by
  rw [carry, ← rotOp_eq_ruleRot]
  exact computes_of_putResult (r := .a) (q := (_, accRotFlags _ _ _)) (keepsCore_refl s) h

theorem exec_rotOnReg (y : Code3) (r : Reg8) (s : State) : exec (rotOnReg y r) s = rotReg (rotOp y) r s := by
  cases y <;> rfl

theorem rotates_of_rotOnReg (y : Code3) (r : Reg8) (s : State) :
    ∃ u, exec (rotOnReg y r) s = .next u ∧ u.main.get r = (ruleRotStep y (s.main.get r) (flags s)).1 ∧
      RegsExcept [r] s u ∧ FlagsAre 0x28#8 (ruleRotStep y (s.main.get r) (flags s)).2 s u ∧
      Ended (s.pc + 2#16) 2 8 s u ∧ Except [.main, .draws] s u := by
  refine computes_of_putResult (keepsCore_refl s) ?_
  rw [exec_rotOnReg, rotReg, rotOp_eq_ruleRot, rotFlags_eq_ruleRotFlags]
  rfl

/-! ### The memory forms -/

/-- What an instruction does before its end that reads the byte at `a`, stores `q.1` back, sets the flags `q.2`, and may
write the register in `copy` with `w`. -/
structure ModifiesMem (a : Word) (q : Byte × FlagBits) (copy : List Reg8) (w : Byte) (s b : State) : Prop where
  stores : Stores1 a q.1 (memRead s a).2 b
  copied : ∀ r, r ∈ copy → b.main.get r = w
  others : RegsExcept copy s b
  setsFlags : FlagsAre 0x28#8 q.2 (memRead s a).2 b
  pc : b.pc = s.pc
  r : b.r = s.r
  cycles : b.cycles = s.cycles
  frame : Except [.main, .mem, .calls, .draws] (memRead s a).2 b

theorem modifiesMem_stepMem (f : Byte → FlagBits → Byte × FlagBits) (a : Word) (w : Byte) (s : State) :
    ModifiesMem a (f (memRead s a).1 (flags s)) [] w s (stepMem f a s) where
  stores := stores1_stepMem f a s
  copied := nofun
  others p _ := stepMem_get f a s p
  setsFlags := flagsAre_stepMem f a s
  pc := stepMem_pc s f a
  r := stepMem_r s f a
  cycles := stepMem_cycles s f a
  frame := except_stepMem f a s

/-- A register written after the store is the only one to change; F stays. -/
theorem modifiesMem_setReg {r : Reg8} {w : Byte} (h : ModifiesMem a q [] w s b) :
    ModifiesMem a q [r] w s (setReg r w b) where
  stores := stores1_of_except h.stores (except_setReg b r w) (by decide) (by decide)
  copied p hp := by
    rw [List.mem_singleton.mp hp]
    exact Regs.get_set_self b.main r w
  others p hp := (regsExcept_setReg b r w p hp).trans (h.others p List.not_mem_nil)
  setsFlags := by
    have hf : (setReg r w b).main.f = b.main.f := Regs.set_f b.main r w
    rw [FlagsAre, hf]
    exact h.setsFlags
  pc := h.pc
  r := h.r
  cycles := h.cycles
  frame := except_trans h.frame (except_mono (except_setReg b r w) (by decide))

/-- An instruction that modifies a byte of memory. -/
theorem modifies_of_modifiesMem {copy : List Reg8} {w : Byte} (hb : ModifiesMem a q copy w s b)
    (h : exec i s = retire len t (m1 k b)) :
    ∃ u, exec i s = .next u ∧ Stores1 a q.1 (memRead s a).2 u ∧ (∀ r, r ∈ copy → u.main.get r = w) ∧
      RegsExcept copy s u ∧ FlagsAre 0x28#8 q.2 (memRead s a).2 u ∧ Ended (s.pc + BitVec.ofNat 16 len) k t s u ∧
      Except [.main, .mem, .calls, .draws] (memRead s a).2 u :=
  ⟨_, h.trans (retire_m1 k len t b), hb.stores, hb.copied, hb.others, hb.setsFlags,
    ended_completed hb.pc hb.r hb.cycles, except_completed hb.frame⟩

theorem exec_rotOnMHl (y : Code3) (s : State) : exec (rotOnMHl y) s = rotMHl (rotOp y) s := by
  cases y <;> rfl

theorem exec_rotOnMXyd (y : Code3) (xy : IndexReg) (d : Byte) (s : State) :
    exec (rotOnMXyd y xy d) s = rotMXyd (rotOp y) xy d s := by
  cases y <;> rfl

theorem exec_rotOnMXydR (y : Code3) (xy : IndexReg) (d : Byte) (r : Reg8) (s : State) :
    exec (rotOnMXydR y xy d r) s = rotMXydR (rotOp y) xy d r s := by
  cases y <;> rfl

section
variable {y : Code3}

/-- A rotate or shift of a byte in memory. -/
theorem rotates_of_rotMem (h : exec i s = retire len t (rotMem (rotOp y) a (m1 k s)).2) :
    ∃ u, exec i s = .next u ∧ Stores1 a (ruleRotStep y (memRead s a).1 (flags s)).1 (memRead s a).2 u ∧
      (∀ r, r ∈ [] → u.main.get r = (ruleRotStep y (memRead s a).1 (flags s)).1) ∧ RegsExcept [] s u ∧
      FlagsAre 0x28#8 (ruleRotStep y (memRead s a).1 (flags s)).2 (memRead s a).2 u ∧
      Ended (s.pc + BitVec.ofNat 16 len) k t s u ∧ Except [.main, .mem, .calls, .draws] (memRead s a).2 u :=
  modifies_of_modifiesMem (modifiesMem_stepMem (ruleRotStep y) a _ s) (by rw [h, rotMem_eq_stepMem, stepMem_m1])

/-- A rotate or shift of a byte in memory with a copy to a register (R274). -/
theorem rotates_of_setReg_rotMem {r : Reg8}
    (h : exec i s = retire len t (setReg r (rotMem (rotOp y) a (m1 k s)).1 (rotMem (rotOp y) a (m1 k s)).2)) :
    ∃ u, exec i s = .next u ∧ Stores1 a (ruleRotStep y (memRead s a).1 (flags s)).1 (memRead s a).2 u ∧
      (∀ p, p ∈ [r] → u.main.get p = (ruleRotStep y (memRead s a).1 (flags s)).1) ∧ RegsExcept [r] s u ∧
      FlagsAre 0x28#8 (ruleRotStep y (memRead s a).1 (flags s)).2 (memRead s a).2 u ∧
      Ended (s.pc + BitVec.ofNat 16 len) k t s u ∧ Except [.main, .mem, .calls, .draws] (memRead s a).2 u :=
  modifies_of_modifiesMem (modifiesMem_setReg (modifiesMem_stepMem (ruleRotStep y) a _ s))
    (by rw [h, rotMem_m1, rotMem_eq_stepMem, setReg_m1])

end

/-! ### RLD and RRD (R284, R285) -/

/-- F is written apart from the other registers, so the order of the two writes is free. -/
theorem putFlags_setReg (mask : Byte) (fl : FlagBits) (r : Reg8) (v : Byte) (s : State) :
    putFlags mask fl (setReg r v s) = setReg r v (putFlags mask fl s) := by
  have hp : (setReg r v s).params = s.params := rfl
  rw [putFlags, putFlags, hp]
  cases s.params.undocFlags <;> cases r <;> rfl

/-- The byte `v` stored and the flags of the new A, `res`. -/
def digitStep (res v : Byte) (_read : Byte) (old : FlagBits) : Byte × FlagBits := (v, ruleTestFlags res old)

/-- A digit rotate is the memory step `digitStep` and then the write of A. -/
theorem digitRotate_eq_stepMem (s : State) (a : Word) (res v : Byte) :
    putFlags xyMask (digitFlags res (flags s)) (setReg .a res (memWrite (memRead s a).2 a v)) =
      setReg .a res (stepMem (digitStep res v) a s) := by
  rw [putFlags_setReg, digitFlags_eq_ruleTestFlags, stepMem, flags_memRead]
  rfl

/-- An instruction that moves digits between A and the byte at HL. -/
theorem moves_of_digits {res v : Byte}
    (h : exec i s = retire len t (putFlags xyMask (digitFlags res (flags s))
      (setReg .a res (memWrite (memRead (m1 k s) s.main.hl).2 s.main.hl v)))) :
    ∃ u, exec i s = .next u ∧ u.main.a = res ∧ RegsExcept [.a] s u ∧
      Stores1 (getPair .hl s) v (memRead s (getPair .hl s)).2 u ∧
      FlagsAre 0x28#8 (ruleTestFlags res (flags s)) (memRead s (getPair .hl s)).2 u ∧
      Ended (s.pc + BitVec.ofNat 16 len) k t s u ∧
      Except [.main, .mem, .calls, .draws] (memRead s (getPair .hl s)).2 u := by
  rw [← flags_m1 s k, digitRotate_eq_stepMem, stepMem_m1, setReg_m1] at h
  obtain ⟨u, hu, hstores, hcopied, hothers, hflags, hend, hframe⟩ :=
    modifies_of_modifiesMem (modifiesMem_setReg (modifiesMem_stepMem (digitStep res v) s.main.hl res s)) h
  exact ⟨u, hu, hcopied .a List.mem_cons_self, hothers, hstores, hflags, hend, hframe⟩

/-! ### The settlements -/

/-- Settles O48: each is `rotates_of_rotAcc` at the code of its rotate. -/
theorem rotateAccumulator : Obligations.RotateAccumulator := by
  unfold Obligations.RotateAccumulator
  exact ⟨row_of_encode rfl rfl, row_of_encode rfl rfl, row_of_encode rfl rfl, row_of_encode rfl rfl, fun s =>
    ⟨rotates_of_rotAcc rfl, rotates_of_rotAcc rfl, rotates_of_rotAcc rfl, rotates_of_rotAcc rfl⟩⟩

/-- Settles O49: the register form is `rotates_of_rotOnReg`; the memory forms are `rotates_of_rotMem`, and
`rotates_of_setReg_rotMem` with the copy, each at its own address. -/
theorem rotateAndShift : Obligations.RotateAndShift := by
  unfold Obligations.RotateAndShift
  refine ⟨⟨fun y r => ?_, fun y => ?_, fun y xy d => ?_, fun y xy d r => ?_⟩, rotates_of_rotOnReg, fun y s =>
    ⟨rotates_of_rotMem (exec_rotOnMHl y s), fun xy d =>
      ⟨rotates_of_rotMem (exec_rotOnMXyd y xy d s), fun r =>
        rotates_of_setReg_rotMem (exec_rotOnMXydR y xy d r s)⟩⟩⟩
  · cases y <;> exact row_of_encode rfl rfl
  · cases y <;> exact row_of_encode rfl rfl
  · rw [pre_eq_byte]
    cases y <;> exact row_of_encode rfl rfl
  · rw [pre_eq_byte]
    cases y <;> exact row_of_encode rfl rfl

/-- Settles O50: each is `moves_of_digits`, its digits read as numbers. -/
theorem digitRotates : Obligations.DigitRotates := by
  unfold Obligations.DigitRotates
  refine ⟨row_of_encode rfl rfl, row_of_encode rfl rfl, fun s => ?_⟩
  simp only [← toNat_hiNib, ← toNat_loNib, ← joinNibbles_eq_ofNat]
  exact ⟨moves_of_digits (by rw [exec, execRld, memRead_m1]; rfl),
    moves_of_digits (by rw [exec, execRrd, memRead_m1]; rfl)⟩

end Sys2Proof.Machine
end

section
/-! PROOFS. The bit test, set and reset group (47_bit.md R290 to R298), with the settlements of O51 and O52. BIT writes F and
nothing else; SET and RES are one operation, `bitOp`, whose result goes to a register, or back to memory with or without a
copy to a register (R274). -/

namespace Sys2Proof.Machine

open Claims

variable {i : Instr} {s b : State} {k len t : Nat} {a : Word} {mask : Byte} {fl : FlagBits}

/-! ### The bit of a code -/

theorem num_eq_toNat_bits (y : Code3) : y.num = y.bits.toNat := by cases y <;> rfl

/-- Bit `k` of a byte, over numbers. -/
theorem getLsbD_eq_decide_div (v : Byte) (k : Nat) : v.getLsbD k = decide (v.toNat / 2 ^ k % 2 = 1) :=
  Nat.testBit_eq_decide_div_mod_eq

theorem bitFlags_eq_ruleBit : bitFlags = ruleBit := by
  funext k v xy old
  simp only [bitFlags, ruleBit, ← getLsbD_eq_decide_div, Bool.decide_and, Bool.decide_eq_true]
  rfl

/-- SET writes bit `k` with 1, RES with 0 (R293, R296). -/
def bitOp (on : Bool) (k : Nat) (v : Byte) : Byte := if on then setBit v k else clearBit v k

/-- Of two bytes, the second is the first with the bit of code `y` written. -/
def BitWritten (y : Code3) (on : Bool) (v w : Byte) : Prop :=
  ∀ k, k < 8 → w.getLsbD k = if k = y.bits.toNat then on else v.getLsbD k

theorem getLsbD_one_shiftLeft {n k : Nat} (hk : k < 8) : (1#8 <<< n).getLsbD k = decide (k = n) := by
  rw [← BitVec.twoPow_eq, BitVec.getLsbD_twoPow, ← Bool.decide_and, decide_eq_decide]
  omega

theorem bitWritten_bitOp (y : Code3) (on : Bool) (v : Byte) : BitWritten y on v (bitOp on y.num v) := by
  intro k hk
  rw [num_eq_toNat_bits]
  cases on
  case false =>
    change (v &&& ~~~(1#8 <<< y.bits.toNat)).getLsbD k = _
    rw [BitVec.getLsbD_and, BitVec.getLsbD_not, getLsbD_one_shiftLeft hk, decide_eq_true hk]
    by_cases h : k = y.bits.toNat <;> simp [h]
  case true =>
    change (v ||| (1#8 <<< y.bits.toNat)).getLsbD k = _
    rw [BitVec.getLsbD_or, getLsbD_one_shiftLeft hk]
    by_cases h : k = y.bits.toNat <;> simp [h]

/-! ### BIT (R290 to R292) -/

theorem except_putFlagsFree (s : State) (mask : Byte) (fl : FlagBits) :
    Except [.main, .draws] s (putFlagsFree mask fl s) := by
  intro f hf
  cases f <;> simp [Field.same, peek] at hf ⊢

/-- An instruction that writes F after its operand was read. -/
theorem tests_of_putFlags (hb : KeepsCore s b) (h : exec i s = retire len t (putFlags mask fl (m1 k b))) :
    ∃ u, exec i s = .next u ∧ RegsExcept [] s u ∧ FlagsAre mask fl b u ∧ Ended (s.pc + BitVec.ofNat 16 len) k t s u ∧
      Except [.main, .draws] b u := by
  obtain ⟨hmain, hpc, hr, hc⟩ := hb
  rw [putFlags_m1, retire_m1] at h
  refine ⟨_, h, fun q _ => ?_, flagsAre_putFlags b mask fl, ended_completed ?_ ?_ ?_,
    except_completed (except_putFlags b mask fl)⟩
  · exact (putFlags_get b mask fl q).trans (congrArg (Regs.get · q) hmain)
  all_goals simpa

/-- An instruction that writes F after its operand was read, the bits of `mask` free (R291). -/
theorem tests_of_putFlagsFree (hb : KeepsCore s b) (h : exec i s = retire len t (putFlagsFree mask fl (m1 k b))) :
    ∃ u, exec i s = .next u ∧ RegsExcept [] s u ∧ FlagsFree mask fl b u ∧ Ended (s.pc + BitVec.ofNat 16 len) k t s u ∧
      Except [.main, .draws] b u := by
  obtain ⟨hmain, hpc, hr, hc⟩ := hb
  rw [putFlagsFree_m1, retire_m1] at h
  exact ⟨_, h, fun q _ => (putFlagsFree_get b mask fl q).trans (congrArg (Regs.get · q) hmain),
    putFlagsFree_spec b mask fl, ended_completed hpc hr hc, except_completed (except_putFlagsFree b mask fl)⟩

/-- BIT on indexed memory takes F5 and F3 from the address (R292). -/
theorem tests_of_bitIndexed {y : Code3} {xy : IndexReg} {d : Byte} (h : exec i s = bitIndexed xy d y s) :
    ∃ u, exec i s = .next u ∧ RegsExcept [] s u ∧
      FlagsAre 0x28#8 (ruleBit y.bits.toNat (memRead s (xyAddr xy d s)).1 (hiByte (xyAddr xy d s)) (flags s))
        (memRead s (xyAddr xy d s)).2 u ∧
      Ended (s.pc + 4#16) 2 20 s u ∧ Except [.main, .draws] (memRead s (xyAddr xy d s)).2 u := by
  refine tests_of_putFlags (keepsCore_memRead s _) (h.trans ?_)
  simp only [bitIndexed, memRead_m1, flags_m1, flags_memRead, bitFlags_eq_ruleBit, num_eq_toNat_bits]
  rfl

/-! ### SET and RES (R293 to R298) -/

section
variable {y : Code3} {on : Bool} {r : Reg8}

/-- SET or RES of a register. -/
theorem writes_of_bitOpReg (h : exec i s = bitOpReg (bitOp on y.num) r s) :
    ∃ u, exec i s = .next u ∧ BitWritten y on (s.main.get r) (u.main.get r) ∧ RegsExcept [r] s u ∧ NoFlags s u ∧
      Ended (s.pc + 2#16) 2 8 s u ∧ Except [.main] s u := by
  obtain ⟨u, hu, hget, hrest⟩ := loads_of_setReg (keepsCore_refl s) h
  exact ⟨u, hu, hget ▸ bitWritten_bitOp y on (s.main.get r), hrest⟩

theorem keepsCore_bitMem (f : Byte → Byte) (a : Word) (s : State) : KeepsCore s (bitMem f a s).2 :=
  ⟨bitMem_main s f a, bitMem_pc s f a, bitMem_r s f a, bitMem_cycles s f a⟩

theorem stores1_bitMem (f : Byte → Byte) (a : Word) (s : State) :
    Stores1 a (f (memRead s a).1) (memRead s a).2 (bitMem f a s).2 :=
  stores1_memWrite _ _ _

theorem except_bitMem (f : Byte → Byte) (a : Word) (s : State) :
    Except [.main, .mem, .calls] (memRead s a).2 (bitMem f a s).2 :=
  except_mono (except_memWrite _ _ _) (by decide)

/-- SET or RES of a byte in memory. -/
theorem writes_of_bitMem (h : exec i s = retire len t (bitMem (bitOp on y.num) a (m1 k s)).2) :
    ∃ u w, exec i s = .next u ∧ BitWritten y on (memRead s a).1 w ∧ Stores1 a w (memRead s a).2 u ∧
      (∀ p, p ∈ [] → u.main.get p = w) ∧ RegsExcept [] s u ∧ NoFlags s u ∧
      Ended (s.pc + BitVec.ofNat 16 len) k t s u ∧ Except [.main, .mem, .calls] (memRead s a).2 u := by
  obtain ⟨hmain, hpc, hr, hc⟩ := keepsCore_bitMem (bitOp on y.num) a s
  rw [bitMem_m1, retire_m1] at h
  exact ⟨_, _, h, bitWritten_bitOp y on _, stores1_bitMem _ a s, nofun, fun q _ => congrArg (Regs.get · q) hmain,
    congrArg Regs.f hmain, ended_completed hpc hr hc, except_completed (except_bitMem _ a s)⟩

/-- SET or RES of a byte in memory with a copy to a register (R274). -/
theorem writes_of_setReg_bitMem
    (h : exec i s =
      retire len t (setReg r (bitMem (bitOp on y.num) a (m1 k s)).1 (bitMem (bitOp on y.num) a (m1 k s)).2)) :
    ∃ u w, exec i s = .next u ∧ BitWritten y on (memRead s a).1 w ∧ Stores1 a w (memRead s a).2 u ∧
      (∀ p, p ∈ [r] → u.main.get p = w) ∧ RegsExcept [r] s u ∧ NoFlags s u ∧
      Ended (s.pc + BitVec.ofNat 16 len) k t s u ∧ Except [.main, .mem, .calls] (memRead s a).2 u := by
  obtain ⟨u, hu, hget, hregs, hflags, hend, hframe⟩ :=
    loads_of_setReg (keepsCore_bitMem (bitOp on y.num) a s) (h.trans (by rw [bitMem_m1, setReg_m1]))
  exact ⟨u, _, hu, bitWritten_bitOp y on _,
    stores1_of_except (stores1_bitMem _ a s) hframe (by decide) (by decide),
    fun p hp => by rw [List.mem_singleton.mp hp, hget]; rfl, hregs, hflags, hend,
    except_trans (except_bitMem _ a s) (except_mono hframe (by decide))⟩

end

/-! ### The settlements -/

/-- Settles O51: a form that tests a register or an indexed byte is `tests_of_putFlags`, the form on (HL)
`tests_of_putFlagsFree`. -/
theorem bitTest : Obligations.BitTest := by
  unfold Obligations.BitTest
  refine ⟨fun y r => row_of_encode rfl rfl, fun y => row_of_encode rfl rfl,
    fun xy d y => row_of_encode (by rw [pre_eq_byte]; rfl) rfl,
    fun xy d y r => row_of_encode (by rw [pre_eq_byte]; rfl) rfl, fun y s => ⟨fun r => ?reg, ?hl, fun xy d =>
      ⟨tests_of_bitIndexed rfl, fun r => tests_of_bitIndexed rfl⟩⟩⟩
  case reg =>
    refine tests_of_putFlags (keepsCore_refl s) ?_
    rw [← bitFlags_eq_ruleBit, ← num_eq_toNat_bits]
    rfl
  case hl =>
    refine tests_of_putFlagsFree (keepsCore_memRead s _) ?_
    simp only [exec, execBitMHl, memRead_m1, flags_m1, flags_memRead, bitFlags_eq_ruleBit, num_eq_toNat_bits]
    rfl

/-- Settles O52: SET and RES are `bitOp`, on a register (`writes_of_bitOpReg`), on a byte of memory (`writes_of_bitMem`), or
there with the copy (`writes_of_setReg_bitMem`). -/
theorem bitSetReset : Obligations.BitSetReset := by
  unfold Obligations.BitSetReset
  exact ⟨fun y r => ⟨row_of_encode rfl rfl, row_of_encode rfl rfl⟩,
    fun y => ⟨row_of_encode rfl rfl, row_of_encode rfl rfl⟩,
    fun xy d y => ⟨row_of_encode (by rw [pre_eq_byte]; rfl) rfl, row_of_encode (by rw [pre_eq_byte]; rfl) rfl⟩,
    fun xy d y r => ⟨row_of_encode (by rw [pre_eq_byte]; rfl) rfl, row_of_encode (by rw [pre_eq_byte]; rfl) rfl⟩,
    fun y s => ⟨fun r => ⟨writes_of_bitOpReg (on := true) rfl, writes_of_bitOpReg (on := false) rfl⟩,
      writes_of_bitMem (on := true) rfl, writes_of_bitMem (on := false) rfl, fun xy d =>
      ⟨writes_of_bitMem (on := true) rfl, writes_of_bitMem (on := false) rfl, fun r =>
        ⟨writes_of_setReg_bitMem (on := true) rfl, writes_of_setReg_bitMem (on := false) rfl⟩⟩⟩⟩

end Sys2Proof.Machine
end

section
/-! PROOFS. The jump, call and return group (48_control_flow.md R300 to R318), with the settlements of O53 to O55. An
instruction does its work (none, B counted down, a push or a pop) and ends by going on to the next instruction or by a jump;
`ends_of_retire`, `ends_of_jumpTo` and `ends_of_branch` say that the end changes nothing but PC, R, the cycle count and the
status. -/

namespace Sys2Proof.Machine

open Claims

variable {i : Instr} {s b u : State} {k len t t' : Nat} {target w : Word}

/-! ### Conditions and targets (R93, R300) -/

theorem condHolds_eq_ruleCond (cc : Cond) (s : State) : condHolds cc s = ruleCond cc s.main.f := by
  cases cc <;> simp [condHolds, ruleCond, flags, FlagBits.ofByte]

theorem jrCondHolds_eq_ruleJrCond (cc : JrCond) (s : State) : jrCondHolds cc s = ruleJrCond cc s.main.f := by
  cases cc <;> simp [jrCondHolds, ruleJrCond, flags, FlagBits.ofByte]

/-- A relative target, over signed numbers (R9, R93). -/
theorem relTarget_eq_ofInt (e : Byte) (s : State) : relTarget e s = BitVec.ofInt 16 (s.pc.toNat + 2 + e.toInt) := by
  rw [BitVec.ofInt_add, BitVec.ofInt_add, BitVec.ofInt_natCast, BitVec.ofNat_toNat, BitVec.setWidth_eq]
  rfl

@[simp] theorem relTarget_m1 (e : Byte) (k : Nat) (s : State) : relTarget e (m1 k s) = relTarget e s := rfl

/-! ### The ends of an instruction -/

section
variable (hr : b.r = s.r) (hc : b.cycles = s.cycles)
include hr hc

/-- The end of an instruction that does not write PC. -/
theorem ends_of_retire (hpc : b.pc = s.pc) (h : exec i s = retire len t (m1 k b)) :
    ∃ u, exec i s = .next u ∧ Ended (s.pc + BitVec.ofNat 16 len) k t s u ∧ Except [] b u :=
  ⟨_, h.trans (retire_m1 k len t b), ended_completed hpc hr hc, except_completed (except_refl [] b)⟩

/-- The end of an instruction that writes PC. -/
theorem ends_of_jumpTo (h : exec i s = jumpTo target t (m1 k b)) :
    ∃ u, exec i s = .next u ∧ Ended target k t s u ∧ Except [] b u := by
  refine ⟨_, h, ⟨rfl, ?_, congrArg (· + t) hc, rfl⟩, except_end (except_refl [] b)⟩
  rw [Counted, ← hr]
  exact ⟨refresh_mod k b.r, refresh_bit7 k b.r⟩

/-- The end of an instruction that writes PC where it is `taken`. -/
theorem ends_of_branch {taken : Bool} (hpc : b.pc = s.pc)
    (h : exec i s = if taken then jumpTo target t (m1 k b) else retire len t' (m1 k b)) :
    ∃ u, exec i s = .next u ∧
      (if taken then Ended target k t s u else Ended (s.pc + BitVec.ofNat 16 len) k t' s u) ∧ Except [] b u := by
  cases taken
  case false => exact ends_of_retire hr hc hpc h
  case true => exact ends_of_jumpTo hr hc h

end

/-! ### Jumps (R301 to R307) -/

/-- An instruction that jumps and does nothing else. -/
theorem goes_of_jumpTo (h : exec i s = jumpTo target t (m1 k s)) :
    ∃ u, exec i s = .next u ∧ Ended target k t s u ∧ Except [] s u :=
  ends_of_jumpTo rfl rfl h

/-- B counted down by DJNZ and by block I/O, over numbers (R307, R336). -/
theorem toNat_sub_one_byte (v : Byte) : (v - 1#8).toNat = (v.toNat + 255) % 256 := by
  rw [BitVec.toNat_sub, Nat.add_comm]
  rfl

/-- B counts down to 0 from 1 only. -/
theorem sub_one_bne_zero (v : Byte) : (v - 1#8 != 0#8) = true ↔ v.toNat ≠ 1 := by
  have hv := v.isLt
  rw [bne_iff_ne, ne_eq, ne_eq, BitVec.toNat_eq, toNat_sub_one_byte, BitVec.toNat_ofNat]
  omega

theorem djnz_counts (e : Byte) (s : State) :
    ∃ u, exec (.djnz e) s = .next u ∧ u.main.b.toNat = (s.main.b.toNat + 255) % 256 ∧ RegsExcept [.b] s u ∧
      NoFlags s u ∧
      (if s.main.b.toNat ≠ 1 then Ended (BitVec.ofInt 16 (s.pc.toNat + 2 + e.toInt)) 1 13 s u
        else Ended (s.pc + 2#16) 1 8 s u) ∧
      Except [.main] s u := by
  obtain ⟨u, hu, hend, hframe⟩ :=
    ends_of_branch (s := s) (b := setReg .b (s.main.b - 1#8) s) (i := .djnz e) (taken := s.main.b - 1#8 != 0#8)
      (target := relTarget e s) rfl rfl rfl rfl
  have hmain : u.main = s.main.set .b (s.main.b - 1#8) := hframe .main (by decide)
  refine ⟨u, hu, ?_, fun q hq => ?_, ?_, ?_, except_trans (except_setReg s .b _) (except_mono hframe (by decide))⟩
  · rw [hmain, ← toNat_sub_one_byte]
    rfl
  · rw [hmain]
    exact regsExcept_setReg s .b _ q hq
  · rw [NoFlags, hmain]
    rfl
  · rw [← relTarget_eq_ofInt]
    simpa only [sub_one_bne_zero] using hend

/-! ### Calls (R308, R309, R312) -/

theorem pushes_of_except (h : Pushes w s b) (hframe : Except [] b u) : Pushes w s u :=
  ⟨stores2_of_except h.1 hframe (by decide) (by decide), (hframe .sp (by decide)).trans h.2⟩

/-- An instruction that pushes a word and jumps. -/
theorem calls_of_push16 (h : exec i s = jumpTo target t (push16 w (m1 k s))) :
    ∃ u, exec i s = .next u ∧ Pushes w s u ∧ Ended target k t s u ∧ Except [.mem, .calls, .sp] s u := by
  obtain ⟨u, hu, hend, hframe⟩ := ends_of_jumpTo (push16_r s w) (push16_cycles s w) (h.trans (by rw [push16_m1]))
  exact ⟨u, hu, pushes_of_except (pushes_push16 s w) hframe, hend,
    except_trans (except_mono (except_push16 s w) (by decide)) (except_mono hframe (by decide))⟩

/-! ### Returns (R310, R311, R317, R318) -/

/-- An instruction that pops a word and jumps to it. -/
theorem returns_of_pop16 (h : exec i s = jumpTo (pop16 (m1 k s)).1 t (pop16 (m1 k s)).2) :
    ∃ u, exec i s = .next u ∧ u.sp = s.sp + 2#16 ∧ Ended (memRead16 s s.sp).1 k t s u ∧
      Except [.sp] (memRead16 s s.sp).2 u := by
  obtain ⟨u, hu, hend, hframe⟩ := ends_of_jumpTo (pop16_r s) (pop16_cycles s) (h.trans (by rw [pop16_m1]))
  exact ⟨u, hu, (hframe .sp (by decide)).trans (pop16_sp s), hend,
    except_trans (except_pop16 s) (except_mono hframe (by decide))⟩

theorem except_iff1 (s : State) (v : Bool) : Except [.iff1] s { s with iff1 := v } := by
  intro f hf
  cases f <;> simp [Field.same, peek] at hf ⊢

/-- RETI, RETN and its undocumented encodings copy IFF2 to IFF1 as well (R426). -/
theorem returns_of_returnFromInterrupt (h : exec i s = returnFromInterrupt (m1 2 s)) :
    ∃ u, exec i s = .next u ∧ u.sp = s.sp + 2#16 ∧ u.iff1 = s.iff2 ∧ Ended (memRead16 s s.sp).1 2 14 s u ∧
      Except [.sp, .iff1] (memRead16 s s.sp).2 u := by
  obtain ⟨u, hu, hend, hframe⟩ :=
    ends_of_jumpTo (b := { (pop16 s).2 with iff1 := s.iff2 }) (pop16_r s) (pop16_cycles s)
      (h.trans (by rw [returnFromInterrupt, pop16_m1]; rfl))
  exact ⟨u, hu, (hframe .sp (by decide)).trans (pop16_sp s), hframe .iff1 (by decide), hend,
    except_trans (except_mono (except_pop16 s) (by decide))
      (except_trans (except_mono (except_iff1 _ _) (by decide)) (except_mono hframe (by decide)))⟩

/-! ### The settlements -/

/-- Settles O53: an unconditional jump is `goes_of_jumpTo`, a conditional one `ends_of_branch` with the rule's condition. -/
theorem jumps : Obligations.Jumps := by
  unfold Obligations.Jumps
  refine ⟨fun nn => row_of_encode rfl rfl, fun cc nn => row_of_encode rfl rfl, fun e => row_of_encode rfl rfl,
    fun cc e => row_of_encode ?_ rfl, row_of_encode rfl rfl, fun xy => row_of_encode (by rw [pre_eq_byte]; rfl) rfl,
    fun e => row_of_encode rfl rfl, fun s => ⟨fun nn => goes_of_jumpTo rfl, fun cc nn => ?jpCc, fun e => ?jr,
      fun cc e => ?jrCc, goes_of_jumpTo rfl, fun xy => goes_of_jumpTo (by rw [exec, execJpXy, getXy_m1]),
      fun e => djnz_counts e s⟩⟩
  · cases cc <;> rfl
  case jpCc =>
    rw [← condHolds_eq_ruleCond]
    exact ends_of_branch rfl rfl rfl (by rw [exec, execJpCc, condHolds_m1])
  case jr =>
    simp only [← relTarget_eq_ofInt]
    exact goes_of_jumpTo rfl
  case jrCc =>
    simp only [← relTarget_eq_ofInt, ← jrCondHolds_eq_ruleJrCond]
    exact ends_of_branch rfl rfl rfl (by rw [exec, execJrCc, jrCondHolds_m1, relTarget_m1])

/-- Settles O54: each call is `calls_of_push16` at its own target and return address. -/
theorem calls : Obligations.Calls := by
  unfold Obligations.Calls
  refine ⟨fun nn => row_of_encode rfl rfl, fun cc nn => row_of_encode rfl rfl, fun t => row_of_encode rfl rfl, fun s =>
    ⟨fun nn => calls_of_push16 rfl, fun cc nn hcc => ?taken, fun cc nn hcc => ?notTaken, fun y => ?rst⟩⟩
  case taken =>
    rw [← condHolds_eq_ruleCond] at hcc
    exact calls_of_push16 (by rw [exec, execCallCc, condHolds_m1, if_pos hcc, m1_pc])
  case notTaken =>
    rw [← condHolds_eq_ruleCond] at hcc
    exact ends_of_retire rfl rfl rfl (by rw [exec, execCallCc, condHolds_m1, if_neg (ne_true_of_eq_false hcc)])
  case rst =>
    rw [Nat.mul_comm, ← num_eq_toNat_bits]
    exact calls_of_push16 rfl

/-- Settles O55: a return is `returns_of_pop16`, or `returns_of_returnFromInterrupt` where it copies IFF2. -/
theorem returns : Obligations.Returns := by
  unfold Obligations.Returns
  refine ⟨row_of_encode rfl rfl, fun cc => row_of_encode rfl rfl, row_of_encode rfl rfl, row_of_encode rfl rfl,
    fun y => row_of_encode rfl rfl, fun s => ⟨returns_of_pop16 rfl, fun cc hcc => ?taken, fun cc hcc => ?notTaken,
      returns_of_returnFromInterrupt rfl, returns_of_returnFromInterrupt rfl,
      fun y => returns_of_returnFromInterrupt rfl⟩⟩
  case taken =>
    rw [← condHolds_eq_ruleCond] at hcc
    exact returns_of_pop16 (by rw [exec, execRetCc, condHolds_m1, if_pos hcc])
  case notTaken =>
    rw [← condHolds_eq_ruleCond] at hcc
    exact ends_of_retire rfl rfl rfl (by rw [exec, execRetCc, condHolds_m1, if_neg (ne_true_of_eq_false hcc)])

end Sys2Proof.Machine
end

section
/-! PROOFS. The input and output group (49_io.md R330 to R344), with the settlements of O56 to O58. A port is read or written
as one access the host answers or takes; what a single transfer does with the byte is what a load, a test of F or an
instruction without effect does. A block instruction is one `blockIn` or `blockOut`, which may stay on its own address
(R195). -/

namespace Sys2Proof.Machine

open Claims

variable {i : Instr} {s b : State} {k len t n : Nat} {p : Word} {v : Byte} {delta : Int} {repeats : Bool}

/-! ### Ports (R12, R62) -/

theorem except_logCall (s : State) (c : HostCall) : Except [.calls] s (logCall c s) := by
  intro f hf
  cases f <;> simp [Field.same, peek] at hf ⊢

theorem keepsCore_ioRead (s : State) (p : Word) : KeepsCore s (ioRead s p).2 :=
  ⟨ioRead_main s p, ioRead_pc s p, ioRead_r s p, ioRead_cycles s p⟩

/-- A port read is the host's answer and, beyond it, the record of the access (R12). -/
theorem except_ioRead (s : State) (p : Word) : Except [.calls] (hostByte s).2 (ioRead s p).2 :=
  except_logCall (hostByte s).2 _

theorem ioRead_calls (s : State) (p : Word) : (ioRead s p).2.calls = s.calls ++ [.portRead p (hostByte s).1] :=
  congrArg (· ++ [HostCall.portRead p (hostByte s).1]) (hostByte_calls s)

/-! ### The single transfers (R330 to R335) -/

/-- IN A,(n) (R330). -/
theorem inAN_loads (n : Byte) (s : State) :
    ∃ u, exec (.inAN n) s = .next u ∧ u.main.a = (hostByte s).1 ∧
      u.calls = s.calls ++ [.portRead (joinBytes s.main.a n) (hostByte s).1] ∧ RegsExcept [.a] s u ∧ NoFlags s u ∧
      Ended (s.pc + 2#16) 1 11 s u ∧ Except [.main, .calls] (hostByte s).2 u := by
  obtain ⟨u, hu, hget, hregs, hflags, hend, hframe⟩ :=
    loads_of_setReg (i := .inAN n) (keepsCore_ioRead s (joinBytes s.main.a n))
      (by rw [exec, execInAN, ioRead_m1, setReg_m1])
  exact ⟨u, hu, hget, (hframe .calls (by decide)).trans (ioRead_calls s _), hregs, hflags, hend,
    except_trans (except_mono (except_ioRead s _) (by decide)) (except_mono hframe (by decide))⟩

/-- IN r,(C) (R331). -/
theorem inRC_loads (r : Reg8) (s : State) :
    ∃ u, exec (.inRC r) s = .next u ∧ u.main.get r = (hostByte s).1 ∧
      u.calls = s.calls ++ [.portRead s.main.bc (hostByte s).1] ∧ RegsExcept [r] s u ∧
      FlagsAre 0x28#8 (ruleTestFlags (hostByte s).1 (flags s)) (hostByte s).2 u ∧ Ended (s.pc + 2#16) 2 12 s u ∧
      Except [.main, .calls, .draws] (hostByte s).2 u := by
  have hb := keepsCore_ioRead s s.main.bc
  obtain ⟨u, hu, hget, hregs, hflags, hend, hframe⟩ :=
    computes_of_putResult (i := .inRC r) (r := r) (q := ((hostByte s).1, ruleTestFlags (hostByte s).1 (flags s))) hb
      (by rw [exec, execInRC, ioRead_m1, digitFlags_eq_ruleTestFlags]; rfl)
  refine ⟨u, hu, hget, (hframe .calls (by decide)).trans (ioRead_calls s _), ?_, flagsAre_congr hflags rfl rfl, hend,
    except_trans (except_mono (except_ioRead s _) (by decide)) (except_mono hframe (by decide))⟩
  rwa [RegsExcept, hb.main] at hregs

/-- IN F,(C) (R332). -/
theorem inFC_tests (s : State) :
    ∃ u, exec .inFC s = .next u ∧ u.calls = s.calls ++ [.portRead s.main.bc (hostByte s).1] ∧ RegsExcept [] s u ∧
      FlagsAre 0x28#8 (ruleTestFlags (hostByte s).1 (flags s)) (hostByte s).2 u ∧ Ended (s.pc + 2#16) 2 12 s u ∧
      Except [.main, .calls, .draws] (hostByte s).2 u := by
  obtain ⟨u, hu, hregs, hflags, hend, hframe⟩ :=
    tests_of_putFlags (i := .inFC) (mask := 0x28#8) (fl := ruleTestFlags (hostByte s).1 (flags s))
      (keepsCore_ioRead s s.main.bc) (by rw [exec, execInFC, ioRead_m1, digitFlags_eq_ruleTestFlags]; rfl)
  exact ⟨u, hu, (hframe .calls (by decide)).trans (ioRead_calls s _), hregs, flagsAre_congr hflags rfl rfl, hend,
    except_trans (except_mono (except_ioRead s _) (by decide)) (except_mono hframe (by decide))⟩

/-- An instruction that hands a byte to a port (R333 to R335). -/
theorem outs_of_ioWrite (h : exec i s = retire len t (ioWrite (m1 k s) p v)) :
    ∃ u, exec i s = .next u ∧ u.calls = s.calls ++ [.portWrite p v] ∧ Ended (s.pc + BitVec.ofNat 16 len) k t s u ∧
      Except [.calls] s u := by
  obtain ⟨u, hu, hend, hframe⟩ := ends_of_retire (s := s) (b := ioWrite s p v) rfl rfl rfl h
  exact ⟨u, hu, hframe .calls (by decide), hend,
    except_trans (except_logCall s (.portWrite p v)) (except_mono hframe (by decide))⟩

/-! ### One block transfer (R336) -/

theorem blockIoFlags_eq_ruleBlockIo : blockIoFlags = ruleBlockIo := by
  funext v k b
  rw [blockIoFlags, ruleBlockIo, beq_zero_eq_decide_toNat, parity_eq_ruleParity]

/-- The registers after one block transfer: B counted down, HL moved by `delta`. -/
def blockIoRegs (delta : Int) (g : Regs) : Regs := { g.setHl (g.hl + BitVec.ofInt 16 delta) with b := g.b - 1#8 }

/-- What a block transfer of `v` does after its two accesses: it writes the registers, from `g`, and the flags. -/
def blockIoEnd (delta : Int) (v : Byte) (sum : Nat) (g : Regs) (b : State) : State :=
  putFlags blockIoMask (blockIoFlags v sum (g.b - 1#8)) (setMain (blockIoRegs delta g) b)

theorem blockIn_eq_blockIoEnd (delta : Int) (s : State) :
    blockIn delta s =
      blockIoEnd delta (hostByte s).1 ((hostByte s).1.toNat + (s.main.c + BitVec.ofInt 8 delta).toNat) s.main
        (memWrite (ioRead s s.main.bc).2 s.main.hl (hostByte s).1) := rfl

theorem blockOut_eq_blockIoEnd (delta : Int) (s : State) :
    blockOut delta s =
      blockIoEnd delta (memRead s s.main.hl).1 ((memRead s s.main.hl).1.toNat + (blockIoRegs delta s.main).l.toNat) s.main
        (ioWrite (memRead s s.main.hl).2 (joinBytes (s.main.b - 1#8) s.main.c) (memRead s s.main.hl).1) := rfl

theorem blockIoEnd_get (delta : Int) (v : Byte) (sum : Nat) (g : Regs) (b : State) (q : Reg8) :
    (blockIoEnd delta v sum g b).main.get q = (blockIoRegs delta g).get q :=
  putFlags_get _ _ _ q

theorem blockIoRegs_get_of_not_mem (delta : Int) (g : Regs) {q : Reg8} (hq : q ∉ [.b, .h, .l]) :
    (blockIoRegs delta g).get q = g.get q := by
  cases q
  case b | h | l => exact absurd (by decide) hq
  all_goals rfl

theorem except_blockIoEnd (delta : Int) (v : Byte) (sum : Nat) (g : Regs) (b : State) :
    Except [.main, .draws] b (blockIoEnd delta v sum g b) :=
  except_trans (except_mono (except_setMain b _) (by decide)) (except_putFlags _ _ _)

/-- One block transfer whose accesses lead to `b`; where it `repeats` it stays on its address while B is not 0. HL moves by
`delta`, which is `n` modulo 65536. -/
theorem transfers_of_blockIoEnd {sum : Nat} (hpc : b.pc = s.pc) (hr : b.r = s.r) (hc : b.cycles = s.cycles)
    (hn : BitVec.ofInt 16 delta = BitVec.ofNat 16 n)
    (h : exec i s = repeatOrRetire (repeats && s.main.b - 1#8 != 0#8) (m1 2 (blockIoEnd delta v sum s.main b))) :
    ∃ u, exec i s = .next u ∧ u.main.b = s.main.b - 1#8 ∧ u.main.l = (blockIoRegs delta s.main).l ∧
      (getPair .hl u).toNat = ((getPair .hl s).toNat + n) % 65536 ∧ RegsExcept [.b, .h, .l] s u ∧
      FlagsAre 0xBF#8 (ruleBlockIo v sum (s.main.b - 1#8)) b u ∧
      (if repeats = true ∧ s.main.b.toNat ≠ 1 then Ended s.pc 2 21 s u else Ended (s.pc + 2#16) 2 16 s u) ∧
      Except [.main, .draws] b u := by
  have hget := blockIoEnd_get delta v sum s.main b
  rw [repeatOrRetire_m1] at h
  refine ⟨_, h, hget .b, hget .l, ?_, fun q hq => (hget q).trans (blockIoRegs_get_of_not_mem delta s.main hq), ?_,
    ended_iterated ?_ ?_ ?_ ?_, except_completed (except_blockIoEnd delta v sum s.main b)⟩
  · have hhl : getPair .hl (blockIoEnd delta v sum s.main b) = s.main.hl + BitVec.ofInt 16 delta :=
      (getPair_putFlags _ _ _ _).trans (joinBytes_hi_lo _)
    rw [iterated, getPair_completed, hhl, hn, BitVec.toNat_add, BitVec.toNat_ofNat, Nat.add_mod_mod]
    rfl
  · rw [← blockIoFlags_eq_ruleBlockIo]
    exact flagsAre_congr (flagsAre_putFlags (setMain (blockIoRegs delta s.main) b) _ _) rfl rfl
  · rw [Bool.and_eq_true, sub_one_bne_zero]
  all_goals simpa [blockIoEnd]

/-- An instruction that is one block input. -/
theorem inputs_of_blockIn (hn : BitVec.ofInt 16 delta = BitVec.ofNat 16 n)
    (hn' : BitVec.ofInt 8 delta = BitVec.ofNat 8 n)
    (h : exec i s = repeatOrRetire (repeats && (blockIn delta (m1 2 s)).main.b != 0#8) (blockIn delta (m1 2 s))) :
    ∃ u, exec i s = .next u ∧
      Stores1 s.main.hl (hostByte s).1 (ioRead s s.main.bc).2 u ∧
      (getPair .hl u).toNat = ((getPair .hl s).toNat + n) % 65536 ∧ u.main.b.toNat = (s.main.b.toNat + 255) % 256 ∧
      RegsExcept [.b, .h, .l] s u ∧
      FlagsAre 0xBF#8 (ruleBlockIo (hostByte s).1 ((hostByte s).1.toNat + (s.main.c.toNat + n) % 256) u.main.b)
        (ioRead s s.main.bc).2 u ∧
      (if repeats = true ∧ s.main.b.toNat ≠ 1 then Ended s.pc 2 21 s u else Ended (s.pc + 2#16) 2 16 s u) ∧
      Except [.main, .mem, .calls, .draws] (ioRead s s.main.bc).2 u := by
  have hb : (blockIn delta (m1 2 s)).main.b = s.main.b - 1#8 := blockIoEnd_get delta _ _ _ _ .b
  have hsum : (s.main.c + BitVec.ofInt 8 delta).toNat = (s.main.c.toNat + n) % 256 := by
    rw [hn', BitVec.toNat_add, BitVec.toNat_ofNat, Nat.add_mod_mod]
  rw [hb, blockIn_m1, blockIn_eq_blockIoEnd, hsum] at h
  obtain ⟨u, hu, hub, -, hhl, hregs, hflags, hend, hframe⟩ :=
    transfers_of_blockIoEnd (by simp) (by simp) (by simp) hn h
  refine ⟨u, hu, stores1_of_except (stores1_memWrite _ _ _) hframe (by decide) (by decide), hhl, ?_, hregs, ?_, hend,
    except_trans (except_mono (except_memWrite _ _ _) (by decide)) (except_mono hframe (by decide))⟩
  · rw [hub, toNat_sub_one_byte]
  · rw [hub]
    exact flagsAre_congr hflags (memWrite_params _ _ _) (memWrite_draws _ _ _)

/-- An instruction that is one block output. -/
theorem outputs_of_blockOut (hn : BitVec.ofInt 16 delta = BitVec.ofNat 16 n)
    (h : exec i s = repeatOrRetire (repeats && (blockOut delta (m1 2 s)).main.b != 0#8) (blockOut delta (m1 2 s))) :
    ∃ u, exec i s = .next u ∧
      u.calls = (memRead s s.main.hl).2.calls ++ [.portWrite (joinBytes u.main.b s.main.c) (memRead s s.main.hl).1] ∧
      (getPair .hl u).toNat = ((getPair .hl s).toNat + n) % 65536 ∧ u.main.b.toNat = (s.main.b.toNat + 255) % 256 ∧
      RegsExcept [.b, .h, .l] s u ∧
      FlagsAre 0xBF#8
        (ruleBlockIo (memRead s s.main.hl).1 ((memRead s s.main.hl).1.toNat + u.main.l.toNat) u.main.b)
        (memRead s s.main.hl).2 u ∧
      (if repeats = true ∧ s.main.b.toNat ≠ 1 then Ended s.pc 2 21 s u else Ended (s.pc + 2#16) 2 16 s u) ∧
      Except [.main, .calls, .draws] (memRead s s.main.hl).2 u := by
  have hb : (blockOut delta (m1 2 s)).main.b = s.main.b - 1#8 := blockIoEnd_get delta _ _ _ _ .b
  rw [hb, blockOut_m1, blockOut_eq_blockIoEnd] at h
  obtain ⟨u, hu, hub, hul, hhl, hregs, hflags, hend, hframe⟩ :=
    transfers_of_blockIoEnd (by simp) (by simp) (by simp) hn h
  refine ⟨u, hu, ?_, hhl, ?_, hregs, ?_, hend,
    except_trans (except_mono (except_logCall _ _) (by decide)) (except_mono hframe (by decide))⟩
  · rw [hub]
    exact hframe .calls (by decide)
  · rw [hub, toNat_sub_one_byte]
  · rw [hub, hul]
    exact flagsAre_congr hflags rfl rfl

/-! ### The settlements -/

/-- Settles O56: the three inputs differ in what they write; each output is `outs_of_ioWrite`. -/
theorem portTransfers : Obligations.PortTransfers := by
  unfold Obligations.PortTransfers
  exact ⟨fun n => row_of_encode rfl rfl, fun r => row_of_encode rfl rfl, row_of_encode rfl rfl,
    fun n => row_of_encode rfl rfl, fun r => row_of_encode rfl rfl, row_of_encode rfl rfl, fun s =>
    ⟨fun n => inAN_loads n s, fun r => inRC_loads r s, inFC_tests s, fun n => outs_of_ioWrite rfl,
      fun r => outs_of_ioWrite rfl, outs_of_ioWrite rfl⟩⟩

/-- Settles O57: each form is `inputs_of_blockIn`; INI and IND never repeat. -/
theorem blockInput : Obligations.BlockInput := by
  unfold Obligations.BlockInput
  exact ⟨row_of_encode rfl rfl, row_of_encode rfl rfl, row_of_encode rfl rfl, row_of_encode rfl rfl, fun s =>
    ⟨inputs_of_blockIn rfl rfl rfl, inputs_of_blockIn rfl rfl rfl, inputs_of_blockIn rfl rfl rfl,
      inputs_of_blockIn rfl rfl rfl⟩⟩

/-- Settles O58: each form is `outputs_of_blockOut`; OUTI and OUTD never repeat. -/
theorem blockOutput : Obligations.BlockOutput := by
  unfold Obligations.BlockOutput
  exact ⟨row_of_encode rfl rfl, row_of_encode rfl rfl, row_of_encode rfl rfl, row_of_encode rfl rfl, fun s =>
    ⟨outputs_of_blockOut rfl rfl, outputs_of_blockOut rfl rfl, outputs_of_blockOut rfl rfl,
      outputs_of_blockOut rfl rfl⟩⟩

end Sys2Proof.Machine
end

section
/-! PROOFS. Interrupts at a boundary (60_exceptions.md R410, R411, R420 to R425), with the settlements of O7 to O10. An
acceptance makes its own effects, pushes PC and jumps (`takeInterrupt`, or `jumpThrough` in mode 2); where nothing is
accepted the two requests pass through the step unread (`step_withLines`). -/

namespace Sys2Proof.Machine

open Claims

variable {s e u : State} {k t : Nat} {target : Word} {n l : Bool}

/-! ### Which of its four things a step does (R410) -/

theorem step_eq_boundaryStep (hb : AtBoundary s) : step s = boundaryStep s := by
  obtain ⟨ha, hf⟩ := hb
  simp only [step, cycle, ha, hf]

theorem nmiDue_iff : nmiDue s = true ↔ s.afterPrefix = false ∧ s.nmiPending = true := by
  simp [nmiDue]

theorem maskableDue_iff :
    maskableDue s = true ↔ s.afterPrefix = false ∧ s.intLine = true ∧ s.iff1 = true ∧ s.eiInhibit = false := by
  simp [maskableDue, and_assoc]

theorem noAcceptance_iff : NoAcceptance s ↔ nmiDue s = false ∧ maskableDue s = false := by
  rw [NoAcceptance, ← nmiDue_iff, ← maskableDue_iff, Bool.not_eq_true, Bool.not_eq_true]

theorem step_of_nmi (hb : AtBoundary s) (hap : s.afterPrefix = false) (hn : s.nmiPending = true) :
    step s = .next (acceptNmi { s with calls := [] }) := by
  rw [step_eq_boundaryStep hb]
  exact if_pos (nmiDue_iff.mpr ⟨hap, hn⟩)

theorem step_of_maskable (hb : AtBoundary s) (hm : MaskableAccepted s) :
    step s = .next (acceptMaskable { s with calls := [] }) := by
  obtain ⟨hap, hn, hline, hiff, hei⟩ := hm
  have hnmi : ¬ nmiDue s = true := fun h => Bool.false_ne_true (hn.symm.trans (nmiDue_iff.mp h).2)
  rw [step_eq_boundaryStep hb, boundaryStep, if_neg hnmi, if_pos (maskableDue_iff.mpr ⟨hap, hline, hiff, hei⟩)]

theorem step_of_halted (hb : AtBoundary s) (hn : NoAcceptance s) (hh : s.halted = true) :
    step s = .next (idleStep (passBoundary s)) := by
  obtain ⟨hnmi, hint⟩ := noAcceptance_iff.mp hn
  rw [step_eq_boundaryStep hb, boundaryStep, if_neg (ne_true_of_eq_false hnmi), if_neg (ne_true_of_eq_false hint),
    if_pos hh]

/-! ### Taking an interrupt -/

theorem pushes_takeInterrupt (target : Word) (t : Nat) (e : State) : Pushes e.pc e (takeInterrupt target t e) :=
  pushes_push16 e e.pc

theorem except_takeInterrupt (target : Word) (t : Nat) (e : State) :
    Except [.mem, .calls, .sp] e (takeInterrupt target t e) :=
  except_end (except_mono (except_push16 e e.pc) (by decide))

/-- The fetch an acceptance counts is counted among the effects before its push (R421, R425). -/
theorem ended_takeInterrupt (hr : e.r = refresh k s.r) (hc : e.cycles = s.cycles) :
    Ended target k t s (takeInterrupt target t e) := by
  have hr' : (takeInterrupt target t e).r = refresh k s.r := (push16_r e e.pc).trans hr
  refine ⟨rfl, ?_, congrArg (· + t) hc, rfl⟩
  rw [Counted, hr']
  exact ⟨refresh_mod k s.r, refresh_bit7 k s.r⟩

/-- The effects of an NMI acceptance before its push, the record of accesses begun anew (R421). -/
theorem except_nmiEffects (s : State) :
    Except [.calls, .nmiPending, .halted, .eiInhibit, .iff1] s (nmiEffects { s with calls := [] }) := by
  intro f hf
  cases f <;> simp [Field.same, peek, nmiEffects] at hf ⊢

/-- The effects of a maskable acceptance before its push, the record of accesses begun anew (R425). -/
theorem except_maskableEffects (s : State) :
    Except [.calls, .halted, .eiInhibit, .iff1, .iff2] s (maskableEffects { s with calls := [] }) := by
  intro f hf
  cases f <;> simp [Field.same, peek, maskableEffects] at hf ⊢

/-- Settles O7: an NMI acceptance is `takeInterrupt` after `nmiEffects`. -/
theorem nmiAcceptance : Obligations.NmiAcceptance := by
  unfold Obligations.NmiAcceptance
  intro s hb hap hn
  have hframe := except_takeInterrupt 0x0066#16 11 (nmiEffects { s with calls := [] })
  exact ⟨_, step_of_nmi hb hap hn, pushes_takeInterrupt _ _ (nmiEffects { s with calls := [] }),
    ended_takeInterrupt rfl rfl, hframe .nmiPending (by decide), hframe .halted (by decide),
    hframe .eiInhibit (by decide), hframe .iff1 (by decide),
    except_trans (except_mono (except_nmiEffects s) (by decide)) (except_mono hframe (by decide))⟩

/-! ### Modes 0 and 1 (R422, R423) -/

theorem isRstOpcode_iff (v : Byte) : isRstOpcode v = true ↔ v.toNat % 8 = 7 ∧ 192 ≤ v.toNat := by
  revert v
  decide

/-- The address of an RST opcode, over numbers (R422). -/
theorem zext16_restart_eq_ofNat {v : Byte} (h : isRstOpcode v = true) :
    zext16 (v &&& 0x38#8) = BitVec.ofNat 16 (v.toNat - v.toNat % 8 - 192) := by
  revert v
  decide

/-- A step that takes a maskable interrupt by `takeInterrupt` has the common effects (R425). -/
theorem takes_of_takeInterrupt (h : step s = .next (takeInterrupt target t (maskableEffects { s with calls := [] }))) :
    ∃ u, step s = .next u ∧ Pushes s.pc { s with calls := [] } u ∧ Ended target 1 t s u ∧ u.iff1 = false ∧
      u.iff2 = false ∧ u.halted = false ∧ u.eiInhibit = false ∧
      Except [.mem, .calls, .sp, .halted, .eiInhibit, .iff1, .iff2] s u := by
  have hframe := except_takeInterrupt target t (maskableEffects { s with calls := [] })
  exact ⟨_, h, pushes_takeInterrupt _ _ (maskableEffects { s with calls := [] }), ended_takeInterrupt rfl rfl,
    hframe .iff1 (by decide), hframe .iff2 (by decide), hframe .halted (by decide), hframe .eiInhibit (by decide),
    except_trans (except_mono (except_maskableEffects s) (by decide)) (except_mono hframe (by decide))⟩

/-- In mode 0 the byte of the host is the opcode of an RST, or it faults (R422). -/
theorem step_of_mode0 (hb : AtBoundary s) (hm : MaskableAccepted s) (him : s.im = .im0) :
    step s = .next (acceptMode0 { s with calls := [] }) := by
  rw [step_of_maskable hb hm, acceptMaskable]
  simp only [him]

/-- Mode 1 (R423). -/
theorem mode1_takes (hb : AtBoundary s) (hm : MaskableAccepted s) (him : s.im = .im1) :
    ∃ u, step s = .next u ∧ Pushes s.pc { s with calls := [] } u ∧ Ended 0x0038#16 1 13 s u ∧ u.iff1 = false ∧
      u.iff2 = false ∧ u.halted = false ∧ u.eiInhibit = false ∧
      Except [.mem, .calls, .sp, .halted, .eiInhibit, .iff1, .iff2] s u := by
  refine takes_of_takeInterrupt ?_
  rw [step_of_maskable hb hm, acceptMaskable]
  simp only [him]
  rfl

/-- Settles O8: with an RST opcode mode 0 is `takes_of_takeInterrupt` at the opcode's address, mode 1 at its own. -/
theorem maskableFixedVectors : Obligations.MaskableFixedVectors := by
  unfold Obligations.MaskableFixedVectors
  refine ⟨fun s hb hm him => ⟨fun hrst => ?_, fun hrst => ?_⟩, fun s hb hm him => mode1_takes hb hm him⟩
  · rw [← isRstOpcode_iff] at hrst
    rw [← zext16_restart_eq_ofNat hrst]
    exact takes_of_takeInterrupt ((step_of_mode0 hb hm him).trans (congrArg _ (if_pos hrst)))
  · rw [← isRstOpcode_iff] at hrst
    exact (step_of_mode0 hb hm him).trans (congrArg _ (if_neg hrst))

/-! ### Mode 2 (R424) -/

theorem step_of_mode2 (hb : AtBoundary s) (hm : MaskableAccepted s) (him : s.im = .im2) :
    step s = .next (acceptMode2 { s with calls := [] }) := by
  rw [step_of_maskable hb hm, acceptMaskable]
  simp only [him]

/-- The low byte of a word read, where the array answers it (R63). -/
theorem loByte_memRead16 {a : Word} (h : loadCell s.params.mapper a ≠ none) :
    loByte (memRead16 s a).1 = arrayByte s a := by
  rw [← memRead_fst s h]
  exact loByte_joinBytes _ _

/-- The high byte of a word read, where the array answers it (R63). -/
theorem hiByte_memRead16 {a : Word} (h : loadCell s.params.mapper (a + 1#16) ≠ none) :
    hiByte (memRead16 s a).1 = arrayByte s (a + 1#16) := by
  have hp := memRead_params s a
  rw [← arrayByte_congr (memRead_mem s a) hp, ← memRead_fst (memRead s a).2 (hp ▸ h)]
  exact hiByte_joinBytes _ _

/-- Nothing but the record of accesses and what the host has answered changes in a word read. -/
theorem except_memRead16 (s : State) (a : Word) : Except [.calls, .hostReplies, .draws] s (memRead16 s a).2 := by
  intro f hf
  cases f <;> simp [Field.same, peek] at hf ⊢

/-- The second half of a mode 2 acceptance: PC takes the word at the vector `a`, and `t` T-states are charged. -/
def jumpThrough (a : Word) (t : Nat) (w : State) : State :=
  { (memRead16 w a).2 with pc := (memRead16 w a).1, cycles := w.cycles + t, status := .normal }

theorem except_jumpThrough (a : Word) (t : Nat) (w : State) :
    Except [.calls, .hostReplies, .draws] w (jumpThrough a t w) :=
  except_end (except_memRead16 w a)

theorem arrayByte_jumpThrough (a : Word) (t : Nat) (w : State) (c : Word) :
    arrayByte (jumpThrough a t w) c = arrayByte w c :=
  arrayByte_congr (memRead16_mem w a) (memRead16_params w a) c

/-- The first half of a mode 2 acceptance: the common effects and the push. -/
def mode2Pushed (s : State) : State := push16 s.pc (maskableEffects { s with calls := [] })

theorem except_mode2Pushed (s : State) :
    Except [.mem, .calls, .sp, .halted, .eiInhibit, .iff1, .iff2] s (mode2Pushed s) :=
  except_trans (except_mono (except_maskableEffects s) (by decide)) (except_mono (except_push16 _ _) (by decide))

/-- The common effects still stand after the push (R425). -/
theorem control_mode2Pushed (s : State) : control (mode2Pushed s) = control (maskableEffects { s with calls := [] }) :=
  control_push16 _ _

theorem acceptMode2_eq_jumpThrough (s : State) :
    acceptMode2 { s with calls := [] } = jumpThrough (mode2Vector s) 19 (mode2Pushed s) := by
  have hc : (mode2Pushed s).cycles = s.cycles := push16_cycles _ _
  rw [jumpThrough, hc]
  rfl

theorem ended_jumpThrough (a : Word) (s : State) :
    Ended (jumpThrough a t (mode2Pushed s)).pc 1 t s (jumpThrough a t (mode2Pushed s)) := by
  have hc : (mode2Pushed s).cycles = s.cycles := push16_cycles _ _
  have hr : (jumpThrough a t (mode2Pushed s)).r = refresh 1 s.r :=
    (memRead16_r (mode2Pushed s) a).trans (congrArg ControlState.r (control_mode2Pushed s))
  refine ⟨rfl, ?_, congrArg (· + t) hc, rfl⟩
  rw [Counted, hr]
  exact ⟨refresh_mod 1 s.r, refresh_bit7 1 s.r⟩

/-- Settles O9: the push leads to `mode2Pushed`, from which `jumpThrough` reads the word at the vector. -/
theorem maskableMode2 : Obligations.MaskableMode2 := by
  unfold Obligations.MaskableMode2
  intro s hb hm him
  have hw := except_mode2Pushed s
  have hu := except_jumpThrough (mode2Vector s) 19 (mode2Pushed s)
  have hp : (mode2Pushed s).params = s.params := hw .params (by decide)
  have hc := control_mode2Pushed s
  have hstep := step_of_mode2 hb hm him
  rw [acceptMode2_eq_jumpThrough] at hstep
  refine ⟨mode2Pushed s, _, pushes_push16 (maskableEffects { s with calls := [] }) s.pc, hstep, hu .mem (by decide),
    hu .sp (by decide), memRead16_calls _ _, fun h => ?lo, fun h => ?hi, ended_jumpThrough _ s, ?_, ?_, ?_, ?_,
    except_trans (except_mono hw (by decide)) (except_mono hu (by decide))⟩
  case lo =>
    rw [arrayByte_jumpThrough]
    exact loByte_memRead16 (hp ▸ h)
  case hi =>
    rw [arrayByte_jumpThrough]
    exact hiByte_memRead16 (hp ▸ h)
  · exact (hu .iff1 (by decide)).trans (congrArg ControlState.iff1 hc)
  · exact (hu .iff2 (by decide)).trans (congrArg ControlState.iff2 hc)
  · exact (hu .halted (by decide)).trans (congrArg ControlState.halted hc)
  · exact (hu .eiInhibit (by decide)).trans (congrArg ControlState.eiInhibit hc)

/-! ### Requests that are not accepted (R411) -/

theorem fetchAndExecute_of_hasHandler (h : hasHandler (fetch s).instr s = true) :
    fetchAndExecute s = exec (fetch s).instr (fetch s).state :=
  if_pos h

theorem fetchAndExecute_of_no_handler (h : hasHandler (fetch s).instr s = false) :
    fetchAndExecute s = .next (raiseDecodeError (fetch s).reported (fetch s).state) :=
  if_neg (ne_true_of_eq_false h)

/-- Neither a fetch nor an instruction reads the requests (R33). -/
theorem fetchAndExecute_lines (s : State) (n l : Bool) :
    fetchAndExecute (withLines n l s) = Result.withLines n l (fetchAndExecute s) := by
  have hinstr : (fetch (withLines n l s)).instr = (fetch s).instr := by
    rw [fetch_lines]
    rfl
  cases h : hasHandler (fetch s).instr s
  case true =>
    rw [fetchAndExecute_of_hasHandler h, fetchAndExecute_of_hasHandler (hinstr ▸ h), hinstr, ← exec_lines, fetch_lines]
  case false =>
    rw [fetchAndExecute_of_no_handler h, fetchAndExecute_of_no_handler (hinstr ▸ h), fetch_lines]
    rfl

/-- Where the requests are accepted neither as they stand nor with the values `n` and `l`, the step does not depend on
them. -/
theorem step_withLines (hb : AtBoundary s) (hs : NoAcceptance s) (hs' : NoAcceptance (withLines n l s)) :
    step (withLines n l s) = Result.withLines n l (step s) := by
  have hb' : AtBoundary (withLines n l s) := hb
  cases hh : s.halted
  case true =>
    rw [step_of_halted hb hs hh, step_of_halted hb' hs' hh]
    rfl
  case false =>
    rw [step_eq_fetchAndExecute hb hs hh, step_eq_fetchAndExecute hb' hs' hh]
    exact fetchAndExecute_lines (passBoundary s) n l

theorem nmiPending_of_step (hb : AtBoundary s) (hs : NoAcceptance s) (h : step s = .next u) :
    u.nmiPending = s.nmiPending := by
  have hself : step s = Result.withLines s.nmiPending s.intLine (step s) := step_withLines hb hs hs
  rw [h] at hself
  rw [Host.Outcome.next.inj hself]
  rfl

theorem noAcceptance_of_afterPrefix (h : s.afterPrefix = true) : NoAcceptance s := by
  simp [NoAcceptance, h]

theorem noAcceptance_of_masked (hn : s.nmiPending = false) (h : s.iff1 = false ∨ s.eiInhibit = true) :
    NoAcceptance s := by
  obtain h | h := h <;> simp [NoAcceptance, hn, h]

/-- Settles O10: an NMI acceptance clears IFF1, and a request that is not accepted is one the step does not depend on. -/
theorem interruptPriority : Obligations.InterruptPriority := by
  unfold Obligations.InterruptPriority
  refine ⟨fun s hb hap hn hline hiff => ?_, fun s hb hap u h => ?_, fun s hb hn hmask u h => ?_⟩
  · obtain ⟨u, hu, -, ⟨hpc, -⟩, -, -, -, hiff1, hframe⟩ := nmiAcceptance s hb hap hn
    refine ⟨u, hu, hpc, (hframe .intLine (by decide)).trans hline, hframe .iff2 (by decide), fun hm => ?_⟩
    obtain ⟨-, -, -, hset, -⟩ := hm
    exact Bool.false_ne_true (hiff1.symm.trans hset)
  · have hstep := step_withLines (n := false) (l := false) hb (noAcceptance_of_afterPrefix hap)
      (noAcceptance_of_afterPrefix (s := withLines false false s) hap)
    rwa [h] at hstep
  · have hs := noAcceptance_of_masked hn hmask
    have hstep := step_withLines (n := s.nmiPending) (l := false) hb hs
      (noAcceptance_of_masked (s := withLines s.nmiPending false s) hn hmask)
    refine hstep.trans ?_
    rw [h, ← nmiPending_of_step hb hs h]
    rfl

end Sys2Proof.Machine
end

section
/-! PROOFS. What every step does (60_exceptions.md R404, R412, R413; 70_reset_and_hazards.md R460, R470 to R472), with the
settlements of O11, O12, O16 and O20. One law, `exec_charges`, says for every instruction that it charges a number of the
tables; the rest is what a step can do (`step_cases`). -/

namespace Sys2Proof.Machine

open Claims

variable {s b u : State} {i : Instr} {c len t : Nat}

/-! ### The EI delay (R413) -/

section
variable (hb : AtBoundary s) (hn : NoAcceptance s) (hh : s.halted = false) (hp : PlainFetch s)
include hb hn hh hp

/-- The step executes the instruction at PC where the array answers the fetch (R410). -/
theorem step_eq_exec_instrAt (h : hasHandler (instrAt s) s = true) :
    step s = exec (instrAt s) { s with eiInhibit := false, afterPrefix := false, calls := fetchReads s } := by
  obtain ⟨-, hplain⟩ := stepRunsDecodedInstruction
  exact hplain s _ hb hn hh hp rfl h

/-- A step that raised no fault found a handler (R401). -/
theorem hasHandler_of_no_fault (h : step s = .next u) (hf : u.fault = none) : hasHandler (instrAt s) s = true := by
  obtain ⟨hinstr, -, -⟩ := fetch_passBoundary_plain hp
  by_contra hno
  rw [← hinstr, Bool.not_eq_true] at hno
  obtain rfl := Host.Outcome.next.inj (h.symm.trans (step_of_no_handler hb hn hh hno))
  cases hf

end

/-- Settles O11: the step executes the instruction at PC, which only EI leaves with `ei_inhibit` set, and the request is then
taken as any is in mode 1 (`mode1_takes`). -/
theorem eiDelaysOneInstruction : Obligations.EiDelaysOneInstruction := by
  unfold Obligations.EiDelaysOneInstruction
  refine ⟨fun s hb hei hn hh hp hhandler => ?_, fun s u hb hei hn hap hh hp hne hnp h hf => ?_⟩
  · exact step_eq_exec_instrAt hb (noAcceptance_of_masked hn (.inr hei)) hh hp hhandler
  · have hna := noAcceptance_of_masked hn (.inr hei)
    have hexec := step_eq_exec_instrAt hb hna hh hp (hasHandler_of_no_fault hb hna hh hp h hf)
    obtain ⟨-, -, -, -, -, -, hwei, hwap, hline, -, hnmi, hparams, -⟩ :=
      controlStateWriters _ _ _ (hexec.symm.trans h)
    have hei' : u.eiInhibit = false := by
      by_contra hset
      exact hne (hwei hset)
    have hap' : u.afterPrefix = false := by
      by_contra hset
      obtain ⟨xy, hxy⟩ := hwap hset
      exact hnp xy hxy
    refine ⟨hei', hap', fun hreq hiff him => ?_⟩
    have hb' : AtBoundary u := ⟨by rw [hparams]; exact hb.1, hf⟩
    obtain ⟨v, hv, hpush, ⟨hpc, -⟩, -⟩ := mode1_takes hb' ⟨hap', hnmi.trans hn, hline.trans hreq, hiff, hei'⟩ him
    exact ⟨v, hv, hpush, hpc⟩

/-! ### The idle step (R412) -/

theorem except_idleStep (s : State) : Except [.eiInhibit, .afterPrefix, .calls] s (idleStep (passBoundary s)) := by
  intro f hf
  cases f <;> simp [Field.same, peek, idleStep] at hf ⊢

/-- Settles O12: with no request accepted, a halted core idles (`step_of_halted`). -/
theorem idleStepWhileHalted : Obligations.IdleStepWhileHalted := by
  unfold Obligations.IdleStepWhileHalted
  exact fun s hb hn hh => ⟨_, step_of_halted hb hn hh, ⟨refresh_mod 1 s.r, refresh_bit7 1 s.r⟩, rfl, rfl, rfl, rfl, rfl,
    rfl, except_idleStep s⟩

/-! ### No instruction traps (R404) -/

theorem controlAfter_params (i : Instr) (s : State) : (controlAfter i s).params = s.params := by
  unfold controlAfter
  split <;> rfl

/-- Settles O20: every instruction completes, and neither the fault report nor the parameters are among the control fields it
writes (`exec_endsWith_controlAfter`). -/
theorem noInstructionTraps : Obligations.NoInstructionTraps := by
  unfold Obligations.NoInstructionTraps
  intro i s
  obtain ⟨u, hu, hc⟩ := exec_endsWith_controlAfter s i
  exact ⟨u, hu, (congrArg ControlState.fault hc).trans (controlAfter_fault i s),
    (congrArg ControlState.params hc).trans (controlAfter_params i s)⟩

/-! ### T-states (R470 to R472) -/

/-- The numbers of T-states of R471 and R472. -/
def tStates : List Nat := [4, 5, 6, 7, 8, 9, 10, 11, 12, 13, 14, 15, 16, 17, 18, 19, 20, 21, 23]

/-- The outcome is a next state that has charged one of the numbers of the tables on top of `c`. -/
def Charges (c : Nat) (res : Result) : Prop := ∃ u, res = .next u ∧ ∃ t ∈ tStates, u.cycles = c + t

theorem charges_retire (ht : t ∈ tStates) (hc : b.cycles = c) : Charges c (retire len t b) :=
  ⟨_, rfl, t, ht, congrArg (· + t) hc⟩

theorem charges_jumpTo {target : Word} (ht : t ∈ tStates) (hc : b.cycles = c) : Charges c (jumpTo target t b) :=
  ⟨_, rfl, t, ht, congrArg (· + t) hc⟩

theorem charges_repeatOrRetire {again : Bool} (hc : b.cycles = c) : Charges c (repeatOrRetire again b) := by
  cases again
  · exact charges_retire (by decide) hc
  · exact charges_jumpTo (by decide) hc

theorem charges_ite {p : Prop} [Decidable p] {x y : Result} (hx : Charges c x) (hy : Charges c y) :
    Charges c (if p then x else y) := by
  split
  · exact hx
  · exact hy

/-- Every instruction charges a number of the tables: only its end, of which there are four kinds, counts T-states, and no
operation before it does. -/
theorem exec_charges (i : Instr) (s : State) : Charges s.cycles (exec i s) := by
  cases i
  case halt => exact ⟨_, rfl, 4, by decide, rfl⟩
  case retn | reti | retnAlias => exact charges_jumpTo (by decide) (pop16_cycles _)
  case ret | jp | jr | jpHl | jpXy | call | rst => exact charges_jumpTo (by decide) (by simp)
  case jpCc | callCc | retCc | jrCc | djnz =>
    exact charges_ite (charges_jumpTo (by decide) (by simp)) (charges_retire (by decide) (by simp))
  case ldir | lddr | cpir | cpdr | inir | indr | otir | otdr => exact charges_repeatOrRetire (by simp)
  all_goals exact charges_retire (by decide) (by simp)

/-- What L6 says of a step from a state that has counted `c` T-states: it faults and charges none, or charges a number of
the tables. -/
def Accounted (c : Nat) (u : State) : Prop :=
  u.fault ≠ none ∧ u.cycles = c ∨ u.fault = none ∧ ∃ t ∈ tStates, u.cycles = c + t

/-- A maskable acceptance charges 13 or 19, and the mode 0 fault nothing (R422 to R424). -/
theorem accounted_acceptMaskable (hf : s.fault = none) : Accounted s.cycles (acceptMaskable s) := by
  unfold acceptMaskable
  split
  · unfold acceptMode0
    split
    · exact .inr ⟨(push16_fault _ _).trans hf, 13, by decide, rfl⟩
    · exact .inl ⟨nofun, rfl⟩
  · exact .inr ⟨(push16_fault _ _).trans hf, 13, by decide, rfl⟩
  · exact .inr ⟨(memRead16_fault _ _).trans ((push16_fault _ _).trans hf), 19, by decide, rfl⟩

/-- A fetch charges nothing; what follows it is an instruction or a DecodeError (R401, R410). -/
theorem accounted_fetchAndExecute (hf : s.fault = none) (h : fetchAndExecute s = .next u) : Accounted s.cycles u := by
  have hk := fetch_keeps s
  cases hh : hasHandler (fetch s).instr s
  case true =>
    rw [fetchAndExecute_of_hasHandler hh] at h
    obtain ⟨v, hv, hcharge⟩ := exec_charges (fetch s).instr (fetch s).state
    obtain ⟨w, hw, hfault, -⟩ := noInstructionTraps (fetch s).instr (fetch s).state
    obtain rfl := Host.Outcome.next.inj (h.symm.trans hv)
    obtain rfl := Host.Outcome.next.inj (h.symm.trans hw)
    rw [hk.cycles] at hcharge
    exact .inr ⟨hfault.trans (hk.fault.trans hf), hcharge⟩
  case false =>
    rw [fetchAndExecute_of_no_handler hh] at h
    obtain rfl := Host.Outcome.next.inj h
    exact .inl ⟨nofun, hk.cycles⟩

/-- Settles O16, by what a step can do (`step_cases`): take an interrupt, idle, or fetch. -/
theorem stepChargesTStates : Obligations.StepChargesTStates := by
  unfold Obligations.StepChargesTStates
  intro s u hf h
  obtain ⟨ha, -⟩ := steppable_of_step s h
  change Accounted s.cycles u
  obtain ⟨-, hstep⟩ | ⟨-, -, hstep⟩ | ⟨-, -, -, hstep⟩ | ⟨-, -, -, hstep⟩ := step_cases s ha hf
  all_goals rw [hstep] at h
  · obtain rfl := Host.Outcome.next.inj h
    exact .inr ⟨(push16_fault _ _).trans hf, 11, by decide, rfl⟩
  · obtain rfl := Host.Outcome.next.inj h
    exact accounted_acceptMaskable (s := { s with calls := [] }) hf
  · obtain rfl := Host.Outcome.next.inj h
    exact .inr ⟨hf, 4, by decide, rfl⟩
  · exact accounted_fetchAndExecute (s := passBoundary s) hf h

end Sys2Proof.Machine
end
